-- ==== Sys2Proof/Word.lean ====
section
/-! DEFINITION. The unit's word types: bytes of buffer memory, 32-bit bus words and registers, 64-bit operand and result
registers, 33-bit timestamps (00_scope.md R5 to R8, 10_state.md R20, R28, 44_timestamp.md R180). -/

namespace Sys2Proof

/-- One byte of buffer memory (20_memory.md R60). -/
abbrev Byte := BitVec 8

/-- A 32-bit register, bus word or command word (10_state.md R20). -/
abbrev Word := BitVec 32

/-- A 64-bit operand or result register (10_state.md R28, R29). -/
abbrev DWord := BitVec 64

/-- A 33-bit timestamp, PTS, DTS or PCR base (44_timestamp.md R180). -/
abbrev Stamp := BitVec 33

end Sys2Proof
end

