-- ==== Sys2Proof/Config.lean ====
section
/-! DEFINITION. What an implementation fixes (the parameters of 00_scope.md R5) and the free values: what the spec leaves
open, as constants with no body. -/

namespace Sys2Proof

/-- The two implementation parameters of 00_scope.md R5. They never change while the unit runs; State carries them so that
a statement about every state is a statement about every unit the spec allows (entry 1). -/
structure Params where
  /-- `BUF_SIZE`, bytes of buffer memory. -/
  bufSize   : Nat
  /-- `PTS_WINDOW`, PTS samples the frame-rate inference collects. -/
  ptsWindow : Nat
deriving DecidableEq, Repr

/-- The ranges of 00_scope.md R5: BUF_SIZE a power of two from 512 to 65536, PTS_WINDOW from 3 to 1024. -/
def Params.legal (p : Params) : Bool :=
  [512, 1024, 2048, 4096, 8192, 16384, 32768, 65536].contains p.bufSize &&
    decide (3 ≤ p.ptsWindow) && decide (p.ptsWindow ≤ 1024)

/-- The defaults of 00_scope.md R5. -/
def Params.default : Params := { bufSize := 8192, ptsWindow := 32 }

/-- FREE VALUE (entry 2). What buffer byte `a` holds after the `cycle`-th power-on, before anything writes it:
"unspecified (a model takes any value)" (70_reset_and_hazards.md R260). -/
opaque Config.powerOnByte (cycle a : Nat) : Byte

/-- FREE VALUE (entry 7), DESIGN CHOICE. What the 32-bit FD_DURATION holds after an audio frame duration that does not fit
32 bits is decided (10_state.md R39, 45_frame_detector.md R214 state no result there). `k` counts the uses. -/
opaque Config.freeDuration (k : Nat) : Word

end Sys2Proof
end

