-- ==== Sys2Proof/Syntax.lean ====
section
/-! DEFINITION. The commands: one constructor per row of spec/opcode_table.json, the opcodes they share, the CMD32 word
format and the assembler's suffixes (30_encoding.md R80 to R87). -/

namespace Sys2Proof

/-- The commands, one constructor per legal command word (30_encoding.md R83). A command encodes no operand: its flag bits
are part of its name (R86). -/
inductive Instr where
  | nop | clrStatus | softReset
  | brInit | brInitRaw | brBit | brBits | brUe | brSe | brByte
  | crcInit | crcSeed | crcUpdate | crcCheck | crcCheckAcc | crcAppend | sectCheck
  | tsHdr | tsPcrGet | tsPcrSet
  | pesAnalyze | pesGetTsPts | pesGetTsDts | pesSetTsPts | pesSetTsDts
  | tsFindTsPts | tsFindTsDts | tsSetTsPts | tsSetTsDts
  | t33Diff | t33Add
  | fdConfigAudio | fdConfigMpeg2 | fdConfigH264 | fdPacket
deriving DecidableEq, Repr

/-- The 27 opcodes of 30_encoding.md R83, which are also the assembler's mnemonics without a suffix (R87). -/
inductive Opcode where
  | nop | clrStatus | softReset
  | brInit | brBit | brBits | brUe | brSe | brByte
  | crcInit | crcSeed | crcUpdate | crcCheck | crcAppend | sectCheck
  | tsHdr | tsPcrGet | tsPcrSet
  | pesAnalyze | pesGetTs | pesSetTs | tsFindTs | tsSetTs
  | t33Diff | t33Add
  | fdConfig | fdPacket
deriving DecidableEq, Repr

/-- The assembler's suffixes (30_encoding.md R87). -/
inductive Suffix where
  | raw | acc | pts | dts | audio | mpeg2 | h264
deriving DecidableEq, Repr

/-- The three fields of the one command format CMD32 (30_encoding.md R80). -/
structure CommandFields where
  /-- Bits [7:0]. -/
  opcode : BitVec 8
  /-- Bits [11:8]. -/
  flags  : BitVec 4
  /-- Bits [31:12]. -/
  rsvd   : BitVec 20
deriving DecidableEq, Repr

/-- The fields of a command word (30_encoding.md R80). -/
def CommandFields.ofWord (w : Word) : CommandFields :=
  { opcode := w.extractLsb' 0 8, flags := w.extractLsb' 8 4, rsvd := w.extractLsb' 12 20 }

end Sys2Proof
end

