-- ==== Sys2Proof/WellFormed.lean ====
section
/-! DEFINITION. Which command words are legal, as the four checks of 30_encoding.md R82 and as the list of R83. Written
apart from the decoder, which is stated to agree with it. An Instr carries no operand, so every Instr is well-formed; what can
be ill-formed is a word. -/

namespace Sys2Proof

/-- The opcodes of 30_encoding.md R83's table. -/
def assignedOpcodes : List (BitVec 8) :=
  [0x00, 0x01, 0x02, 0x10, 0x11, 0x12, 0x13, 0x14, 0x15, 0x20, 0x21, 0x22, 0x23, 0x24,
    0x25, 0x30, 0x31, 0x32, 0x38, 0x39, 0x3A, 0x3B, 0x3C, 0x40, 0x41, 0x50, 0x51]

/-- "its RSVD field is 0". -/
def CommandFields.rsvdClear (f : CommandFields) : Bool := f.rsvd == 0

/-- "its OPCODE is in rule R83's table". -/
def CommandFields.opcodeAssigned (f : CommandFields) : Bool := assignedOpcodes.contains f.opcode

/-- "its FLAGS bits outside those rule R81 defines for that opcode are 0": one flag bit for BR_INIT, CRC_CHECK and the four
timestamp commands, two for FD_CONFIG, none elsewhere. -/
def CommandFields.flagsDefined (f : CommandFields) : Bool :=
  if f.opcode == 0x50 then f.flags.getLsbD 3 == false && f.flags.getLsbD 2 == false
  else if [0x10, 0x23, 0x39, 0x3A, 0x3B, 0x3C].contains f.opcode then f.flags == 0 || f.flags == 1
  else f.flags == 0

/-- "for FD_CONFIG, KIND != 3". -/
def CommandFields.kindLegal (f : CommandFields) : Bool := !(f.opcode == 0x50 && f.flags.extractLsb' 0 2 == 3#2)

/-- A word is a legal command iff the four checks of 30_encoding.md R82 hold of its fields. -/
def CommandFields.wellFormed (f : CommandFields) : Bool :=
  f.rsvdClear && f.opcodeAssigned && f.flagsDefined && f.kindLegal

/-- "Legal command words, in full" (30_encoding.md R83), transcribed from the rule's list. -/
def legalWords : List Word :=
  [0x00000000, 0x00000001, 0x00000002, 0x00000010, 0x00000110, 0x00000011, 0x00000012,
    0x00000013, 0x00000014, 0x00000015, 0x00000020, 0x00000021, 0x00000022, 0x00000023,
    0x00000123, 0x00000024, 0x00000025, 0x00000030, 0x00000031, 0x00000032, 0x00000038,
    0x00000039, 0x00000139, 0x0000003A, 0x0000013A, 0x0000003B, 0x0000013B, 0x0000003C,
    0x0000013C, 0x00000040, 0x00000041, 0x00000050, 0x00000150, 0x00000250, 0x00000051]

end Sys2Proof
end

