-- ==== Sys2Proof/Decode.lean ====
section
/-! DEFINITION. The decoder of 30_encoding.md R84, total on 32-bit words, rejecting an illegal word by the check it fails;
then the encoder of R83; then the assembler names of R87. -/

namespace Sys2Proof

/-- The check of 30_encoding.md R84 an illegal word fails first. The host sees only ILLEGAL (60_exceptions.md R240). -/
inductive IllegalWord where
  /-- Bits [31:12] are not 0. -/
  | reservedBits
  /-- OPCODE is not in R83's table. -/
  | unassignedOpcode
  /-- A FLAGS bit R81 does not define for the opcode is set. -/
  | undefinedFlags
  /-- FD_CONFIG with KIND = 3. -/
  | illegalKind
deriving DecidableEq, Repr

/-- The opcode map of 30_encoding.md R83, read from a word's OPCODE field. -/
def Opcode.ofCode (c : BitVec 8) : Option Opcode :=
  match c.toNat with
  | 0x00 => some .nop
  | 0x01 => some .clrStatus
  | 0x02 => some .softReset
  | 0x10 => some .brInit
  | 0x11 => some .brBit
  | 0x12 => some .brBits
  | 0x13 => some .brUe
  | 0x14 => some .brSe
  | 0x15 => some .brByte
  | 0x20 => some .crcInit
  | 0x21 => some .crcSeed
  | 0x22 => some .crcUpdate
  | 0x23 => some .crcCheck
  | 0x24 => some .crcAppend
  | 0x25 => some .sectCheck
  | 0x30 => some .tsHdr
  | 0x31 => some .tsPcrGet
  | 0x32 => some .tsPcrSet
  | 0x38 => some .pesAnalyze
  | 0x39 => some .pesGetTs
  | 0x3A => some .pesSetTs
  | 0x3B => some .tsFindTs
  | 0x3C => some .tsSetTs
  | 0x40 => some .t33Diff
  | 0x41 => some .t33Add
  | 0x50 => some .fdConfig
  | 0x51 => some .fdPacket
  | _ => none

/-- The FLAGS bits each command defines (the `allowed` table of 30_encoding.md R84). -/
def Opcode.allowedFlags : Opcode → BitVec 4
  | .brInit | .crcCheck | .pesGetTs | .pesSetTs | .tsFindTs | .tsSetTs => 0b0001
  | .fdConfig => 0b0011
  | _ => 0b0000

/-- The command an opcode and its FLAGS name (30_encoding.md R81); none for FD_CONFIG with KIND = 3. -/
def Opcode.withFlags (o : Opcode) (fl : BitVec 4) : Option Instr :=
  let flag := fl.getLsbD 0
  match o with
  | .nop => some .nop
  | .clrStatus => some .clrStatus
  | .softReset => some .softReset
  | .brInit => some (if flag then .brInitRaw else .brInit)
  | .brBit => some .brBit
  | .brBits => some .brBits
  | .brUe => some .brUe
  | .brSe => some .brSe
  | .brByte => some .brByte
  | .crcInit => some .crcInit
  | .crcSeed => some .crcSeed
  | .crcUpdate => some .crcUpdate
  | .crcCheck => some (if flag then .crcCheckAcc else .crcCheck)
  | .crcAppend => some .crcAppend
  | .sectCheck => some .sectCheck
  | .tsHdr => some .tsHdr
  | .tsPcrGet => some .tsPcrGet
  | .tsPcrSet => some .tsPcrSet
  | .pesAnalyze => some .pesAnalyze
  | .pesGetTs => some (if flag then .pesGetTsDts else .pesGetTsPts)
  | .pesSetTs => some (if flag then .pesSetTsDts else .pesSetTsPts)
  | .tsFindTs => some (if flag then .tsFindTsDts else .tsFindTsPts)
  | .tsSetTs => some (if flag then .tsSetTsDts else .tsSetTsPts)
  | .t33Diff => some .t33Diff
  | .t33Add => some .t33Add
  | .fdConfig =>
    match (fl.extractLsb' 0 2).toNat with
    | 0 => some .fdConfigAudio
    | 1 => some .fdConfigMpeg2
    | 2 => some .fdConfigH264
    | _ => none
  | .fdPacket => some .fdPacket

/-- 30_encoding.md R84, check by check in its order. -/
def decode (w : Word) : Except IllegalWord Instr :=
  let op := w.extractLsb' 0 8
  let fl := w.extractLsb' 8 4
  let rs := w.extractLsb' 12 20
  if rs ≠ 0 then .error .reservedBits
  else
    match Opcode.ofCode op with
    | none => .error .unassignedOpcode
    | some o =>
      if fl &&& ~~~o.allowedFlags ≠ 0 then .error .undefinedFlags
      else
        match o.withFlags fl with
        | none => .error .illegalKind
        | some i => .ok i

/-- The OPCODE byte of each opcode (30_encoding.md R83). -/
def Opcode.code : Opcode → BitVec 8
  | .nop => 0x00
  | .clrStatus => 0x01
  | .softReset => 0x02
  | .brInit => 0x10
  | .brBit => 0x11
  | .brBits => 0x12
  | .brUe => 0x13
  | .brSe => 0x14
  | .brByte => 0x15
  | .crcInit => 0x20
  | .crcSeed => 0x21
  | .crcUpdate => 0x22
  | .crcCheck => 0x23
  | .crcAppend => 0x24
  | .sectCheck => 0x25
  | .tsHdr => 0x30
  | .tsPcrGet => 0x31
  | .tsPcrSet => 0x32
  | .pesAnalyze => 0x38
  | .pesGetTs => 0x39
  | .pesSetTs => 0x3A
  | .tsFindTs => 0x3B
  | .tsSetTs => 0x3C
  | .t33Diff => 0x40
  | .t33Add => 0x41
  | .fdConfig => 0x50
  | .fdPacket => 0x51

/-- The opcode of a command. -/
def Instr.opcode : Instr → Opcode
  | .nop => .nop
  | .clrStatus => .clrStatus
  | .softReset => .softReset
  | .brInit | .brInitRaw => .brInit
  | .brBit => .brBit
  | .brBits => .brBits
  | .brUe => .brUe
  | .brSe => .brSe
  | .brByte => .brByte
  | .crcInit => .crcInit
  | .crcSeed => .crcSeed
  | .crcUpdate => .crcUpdate
  | .crcCheck | .crcCheckAcc => .crcCheck
  | .crcAppend => .crcAppend
  | .sectCheck => .sectCheck
  | .tsHdr => .tsHdr
  | .tsPcrGet => .tsPcrGet
  | .tsPcrSet => .tsPcrSet
  | .pesAnalyze => .pesAnalyze
  | .pesGetTsPts | .pesGetTsDts => .pesGetTs
  | .pesSetTsPts | .pesSetTsDts => .pesSetTs
  | .tsFindTsPts | .tsFindTsDts => .tsFindTs
  | .tsSetTsPts | .tsSetTsDts => .tsSetTs
  | .t33Diff => .t33Diff
  | .t33Add => .t33Add
  | .fdConfigAudio | .fdConfigMpeg2 | .fdConfigH264 => .fdConfig
  | .fdPacket => .fdPacket

/-- The FLAGS field of a command (30_encoding.md R81): RAW, ACC and SEL = 1, KIND = 1 and 2; 0 for the rest. -/
def Instr.flags : Instr → BitVec 4
  | .brInitRaw | .crcCheckAcc | .pesGetTsDts | .pesSetTsDts | .tsFindTsDts | .tsSetTsDts | .fdConfigMpeg2 => 1
  | .fdConfigH264 => 2
  | _ => 0

/-- The command word of a command: RSVD = 0, FLAGS, OPCODE (30_encoding.md R80, R83). -/
def encode (i : Instr) : Word := 0#20 ++ i.flags ++ i.opcode.code

/-- The host's reading of an opcode-table row: the `nbits` bits of `w`, zeros above them, as one command word (entry 13). -/
def decodeTableWord (nbits w : Nat) : Option Instr :=
  match decode (BitVec.ofNat 32 (w % 2 ^ nbits)) with
  | .ok i => some i
  | .error _ => none

/-- The assembler's `MNEMONIC[.SUFFIX]` (30_encoding.md R87): an absent suffix means FLAGS = 0, except that FD_CONFIG needs
one; a suffix the table does not give the mnemonic names no command. -/
def assemble (o : Opcode) (sfx : Option Suffix) : Option Instr :=
  match o, sfx with
  | .brInit, some .raw => o.withFlags 1
  | .crcCheck, some .acc => o.withFlags 1
  | .pesGetTs, some .pts | .pesSetTs, some .pts | .tsFindTs, some .pts | .tsSetTs, some .pts => o.withFlags 0
  | .pesGetTs, some .dts | .pesSetTs, some .dts | .tsFindTs, some .dts | .tsSetTs, some .dts => o.withFlags 1
  | .fdConfig, some .audio => o.withFlags 0
  | .fdConfig, some .mpeg2 => o.withFlags 1
  | .fdConfig, some .h264 => o.withFlags 2
  | .fdConfig, none => none
  | _, none => o.withFlags 0
  | _, some _ => none

end Sys2Proof
end

