-- ==== Sys2Proof/Machine/State.lean ====
section
/-! DEFINITION. Everything the spec gives the unit (10_state.md R20 to R43, 20_memory.md R60), the host accesses still to come,
and the state after power-on reset (70_reset_and_hazards.md R260). Plain data throughout. -/

namespace Sys2Proof.Machine

/-- STATUS.ERR (60_exceptions.md R240); the reserved codes 5 to 15 have no constructor. -/
inductive ErrCode where
  | noError | illegal | range | notConfigured | badOperand
deriving DecidableEq, Repr

/-- STATUS (10_state.md R25), field by field; its reserved bits read 0 (R44), so they are not stored. -/
structure Status where
  valid      : Bool
  needMore   : Bool
  malformed  : Bool
  newFrame   : Bool
  indepFrame : Bool
  brOvf      : Bool
  brEod      : Bool
  err        : ErrCode
  stickyErr  : Bool
  busErr     : Bool
deriving DecidableEq, Repr

/-- The bit-level part of a cursor (10_state.md R32): BR_STATE without ACTIVE, and the state of the frame detector's header
reader (45_frame_detector.md R199). -/
structure BitCursor where
  /-- The byte most recently fetched. -/
  cur     : Byte
  /-- Unread bits left in `cur`, 0 to 8. -/
  nbits   : Nat
  /-- Consecutive 0x00 bytes fetched, saturating at 2. -/
  zeros   : Nat
  /-- Emulation-prevention bytes are kept. -/
  raw     : Bool
  /-- A fetch was attempted past the end. -/
  pastEnd : Bool
deriving DecidableEq, Repr

/-- BR_STATE (10_state.md R32). -/
structure BrState where
  bits   : BitCursor
  active : Bool
deriving DecidableEq, Repr

/-- FD_CFG.KIND (10_state.md R33): "3 is never stored". -/
inductive Kind where
  | audio | mpeg2 | h264
deriving DecidableEq, Repr

/-- FD_CFG (10_state.md R33). -/
structure FdCfg where
  pid        : BitVec 13
  kind       : Kind
  configured : Bool
deriving DecidableEq, Repr

/-- FD_H264 (10_state.md R35). -/
structure FdH264 where
  gotAud         : Bool
  gotSps         : Bool
  frameMbsOnly   : Bool
  sepColourPlane : Bool
deriving DecidableEq, Repr

/-- FD_RESULT (10_state.md R37) and the result record of one packet (45_frame_detector.md R193). -/
structure FdResult where
  newFrame    : Bool
  indepFrame  : Bool
  frameType   : BitVec 3
  fieldPic    : Bool
  bottomField : Bool
  startOff    : Byte
deriving DecidableEq, Repr

/-- FD_RATE.RATE_CODE (10_state.md R38); code 7, never written, has no constructor. -/
inductive RateCode where
  | undecided | fps25 | fps29_97 | fps50 | fps59_94 | defaultUsed | audioDelta
deriving DecidableEq, Repr

/-- FD_RATE (10_state.md R38). -/
structure FdRate where
  synced     : Bool
  fieldCoded : Bool
  rateCode   : RateCode
  iframeSeen : Bool
deriving DecidableEq, Repr

/-- What the outside world does to the unit between two steps: a host bus access of `width` bytes at an address of the 17-bit
host address space (20_memory.md R66, R68), or a power-on reset (70_reset_and_hazards.md R260). -/
inductive HostOp where
  | read (addr : BitVec 17) (width : Nat)
  | write (addr : BitVec 17) (width : Nat) (value : Word)
  | powerOn
deriving DecidableEq, Repr

/-- The unit, with the host accesses still to come. -/
structure State where
  /-- BUF_SIZE and PTS_WINDOW (00_scope.md R5), read in PARAM_BUFSIZE and PARAM_PTSWIN (10_state.md R22, R23). -/
  params     : Params
  /-- CMD (10_state.md R24). -/
  cmd        : Word
  /-- STATUS (R25). -/
  status     : Status
  /-- ADDR (R27). -/
  addr       : Word
  /-- LEN (R27). -/
  len        : Word
  /-- OPA_HI || OPA_LO (R28). -/
  opa        : DWord
  /-- OPB_HI || OPB_LO (R28). -/
  opb        : DWord
  /-- RES0_HI || RES0_LO (R29). -/
  res0       : DWord
  /-- RES1_HI || RES1_LO (R29). -/
  res1       : DWord
  /-- CRC (R30). -/
  crc        : Word
  /-- BR_BASE (R31). -/
  brBase     : Word
  /-- BR_LEN (R31). -/
  brLen      : Word
  /-- BR_IDX (R31). -/
  brIdx      : Word
  /-- BR_STATE (R32). -/
  brState    : BrState
  /-- FD_CFG (R33). -/
  fdCfg      : FdCfg
  /-- FD_SCANNER (R34). -/
  fdScanner  : Word
  /-- FD_H264 (R35). -/
  fdH264     : FdH264
  /-- FD_LOG2MFN (R36). -/
  fdLog2mfn  : Word
  /-- FD_RESULT (R37). -/
  fdResult   : FdResult
  /-- FD_RATE (R38). -/
  fdRate     : FdRate
  /-- FD_DURATION (R39). -/
  fdDuration : Word
  /-- FD_SAMPLES, oldest first (R42); its length is FD_NPTS (R40). -/
  fdSamples  : List Stamp
  /-- FD_DEFDUR (R41). -/
  fdDefdur   : Word
  /-- The buffer bytes written since power-on, addresses strictly rising (20_memory.md R60, entry 2). -/
  mem        : List Host.Cell
  /-- MODEL'S OWN: which power-on content the other bytes hold (entry 2). -/
  powerCycle : Nat
  /-- MODEL'S OWN: free values used so far (entry 7). -/
  freeCount  : Nat
  /-- MODEL'S OWN: the host accesses still to come, next first (entry 3). -/
  host       : List HostOp
  /-- MODEL'S OWN: the data the last host read returned (entry 4). -/
  hostReply  : Option Word
deriving DecidableEq, Repr

/-- Why the machine would stop with a fault. Nobody raises one: "The unit takes no trap and raises no interrupt"
(60_exceptions.md R243), "nothing in this core is allowed to abort the process". Safe: no constructor, no step that stops. -/
inductive Fault
deriving DecidableEq, Repr

/-- Why a step would be refused. -/
inductive Refusal where
  /-- Raised by an arm of exec whose instruction has no meaning yet; no arm of this model does. Safe: the run ends there. -/
  | notModelled (mnemonic : String)
deriving DecidableEq, Repr

/-- STATUS = 0. -/
def Status.zero : Status :=
  { valid := false, needMore := false, malformed := false, newFrame := false, indepFrame := false, brOvf := false,
    brEod := false, err := .noError, stickyErr := false, busErr := false }

/-- A cursor's bits before its first fetch. -/
def BitCursor.fresh (raw : Bool) : BitCursor := { cur := 0, nbits := 0, zeros := 0, raw := raw, pastEnd := false }

/-- FD_H264 = 0. -/
def FdH264.zero : FdH264 := { gotAud := false, gotSps := false, frameMbsOnly := false, sepColourPlane := false }

/-- FD_RESULT = 0. -/
def FdResult.zero : FdResult :=
  { newFrame := false, indepFrame := false, frameType := 0, fieldPic := false, bottomField := false, startOff := 0 }

/-- FD_RATE = 0: scanning. -/
def FdRate.zero : FdRate := { synced := false, fieldCoded := false, rateCode := .undecided, iframeSeen := false }

/-- The state of a unit with parameters `p` right after its first power-on (70_reset_and_hazards.md R260). -/
def State.resetWith (p : Params) : State :=
  { params := p, cmd := 0, status := .zero, addr := 0, len := 0, opa := 0, opb := 0, res0 := 0, res1 := 0,
    crc := 0xFFFFFFFF, brBase := 0, brLen := 0, brIdx := 0, brState := { bits := .fresh false, active := false },
    fdCfg := { pid := 0, kind := .audio, configured := false }, fdScanner := 0xFFFFFFFF, fdH264 := .zero, fdLog2mfn := 0,
    fdResult := .zero, fdRate := .zero, fdDuration := 0, fdSamples := [], fdDefdur := 3600, mem := [], powerCycle := 0,
    freeCount := 0, host := [], hostReply := none }

/-- The machine right after reset, with the default parameters of 00_scope.md R5 (entry 1). -/
def State.reset : State := .resetWith .default

end Sys2Proof.Machine
end

