-- ==== Sys2Proof/Machine/Ops.lean ====
section
/-! DEFINITION. The shared operations: one byte of buffer memory, big- and little-endian runs of bytes (20_memory.md R64, R69),
views (R62, R63), and the command cycle with the way a command ends in an error (40_control.md R100, R102). -/

namespace Sys2Proof.Machine

/-- What a step of this machine answers. -/
abbrev Result := Host.Outcome State Fault Refusal

/-- The canonical form of the list of written bytes: addresses strictly rising (entry 2). -/
def Memory.wf : List Host.Cell → Bool
  | [] => true
  | [_] => true
  | (a, _) :: (a', b') :: m => decide (a < a') && Memory.wf ((a', b') :: m)

/-- The byte written at `a`, none when nothing has written it since power-on. -/
def Memory.lookup : List Host.Cell → Nat → Option Byte
  | [], _ => none
  | (k, b) :: m, a => if a = k then some b else if a < k then none else Memory.lookup m a

/-- Write byte `v` at `a`, keeping the list sorted. -/
def Memory.write : List Host.Cell → Nat → Byte → List Host.Cell
  | [], a, v => [(a, v)]
  | (k, b) :: m, a, v =>
    if a < k then (a, v) :: (k, b) :: m else if a = k then (a, v) :: m else (k, b) :: Memory.write m a v

/-- `BUF[a]` (00_scope.md R9). A byte nothing has written since power-on holds an unspecified value, never an error
(70_reset_and_hazards.md R262). -/
def State.bufByte (s : State) (a : Nat) : Byte :=
  (Memory.lookup s.mem a).getD (Config.powerOnByte s.powerCycle a)

/-- `BUF[a] <- v`. -/
def State.setByte (s : State) (a : Nat) (v : Byte) : State := { s with mem := Memory.write s.mem a v }

/-- `BUF[a + i] <- bs[i]` for every index of `bs`. -/
def State.setBytes (s : State) (a : Nat) : List Byte → State
  | [] => s
  | b :: bs => (s.setByte a b).setBytes (a + 1) bs

/-- `BUF[a], BUF[a+1], ...`, `n` bytes. -/
def State.bytes (s : State) (a : Nat) : Nat → List Byte
  | 0 => []
  | n + 1 => s.bufByte a :: s.bytes (a + 1) n

/-- The low `n` bytes of `v`, most significant first. -/
def beBytes : Nat → Nat → List Byte
  | 0, _ => []
  | n + 1, v => BitVec.ofNat 8 (v >>> (8 * n)) :: beBytes n v

/-- The low `n` bytes of `v`, least significant first. -/
def leBytes : Nat → Nat → List Byte
  | 0, _ => []
  | n + 1, v => BitVec.ofNat 8 v :: leBytes n (v >>> 8)

/-- The number big-endian bytes spell. -/
def beValue (bs : List Byte) : Nat := bs.foldl (fun v b => v * 256 + b.toNat) 0

/-- The number little-endian bytes spell. -/
def leValue : List Byte → Nat
  | [] => 0
  | b :: bs => b.toNat + 256 * leValue bs

/-- `MemRead(a, n)` (20_memory.md R64): big-endian. -/
def State.memRead (s : State) (a n : Nat) : Nat := beValue (s.bytes a n)

/-- `MemWrite(a, n, v)` (20_memory.md R64): big-endian. -/
def State.memWrite (s : State) (a n v : Nat) : State := s.setBytes a (beBytes n v)

/-- A view (20_memory.md R62), with the bytes it names read from the buffer as the command starts. -/
structure View where
  base  : Nat
  bytes : List Byte
deriving DecidableEq, Repr

/-- `view(a, l)` (20_memory.md R62). -/
def State.view (s : State) (a l : Nat) : View := { base := a, bytes := s.bytes a l }

/-- `V.len`. -/
def View.len (V : View) : Nat := V.bytes.length

/-- `V[i]`: 0 at and past the view's length (20_memory.md R63). -/
def View.get (V : View) (i : Nat) : Byte := V.bytes.getD i 0

/-- The first `l` bytes of a list, zero-filled. -/
def takeFill : Nat → List Byte → List Byte
  | 0, _ => []
  | l + 1, [] => 0 :: takeFill l []
  | l + 1, b :: bs => b :: takeFill l bs

/-- `V.sub(o, l)`: the view whose byte `i` is `V[o + i]` for `i < l` (20_memory.md R62). -/
def View.sub (V : View) (o l : Nat) : View := { base := V.base + o, bytes := takeFill l (V.bytes.drop o) }

/-- `V.u16(i)` (20_memory.md R64). -/
def View.u16 (V : View) (i : Nat) : Nat := ((V.get i).toNat <<< 8) ||| (V.get (i + 1)).toNat

/-- `V.u32(i)` (20_memory.md R64). -/
def View.u32 (V : View) (i : Nat) : Nat :=
  ((V.get i).toNat <<< 24) ||| ((V.get (i + 1)).toNat <<< 16) ||| ((V.get (i + 2)).toNat <<< 8) ||| (V.get (i + 3)).toNat

/-- The transient STATUS fields set to 0 at the start of every command (10_state.md R26). -/
def Status.clearTransient (st : Status) : Status :=
  { Status.zero with stickyErr := st.stickyErr, busErr := st.busErr }

/-- The start of every command (40_control.md R100): CMD holds the word, the transient STATUS fields are 0. -/
def State.beginCommand (s : State) (w : Word) : State := { s with cmd := w, status := s.status.clearTransient }

/-- `raise E(code)` (40_control.md R102), the unit's one way of taking an exception (60_exceptions.md R243): the code in
STATUS.ERR, STICKY_ERR set, everything else as the command found it. There is no return to model (R244). -/
def State.raise (s : State) (e : ErrCode) : State := { s with status := { s.status with err := e, stickyErr := true } }

/-- One whole command with word `w` (40_control.md R100): the cycle's start, then the rule; an error discards whatever the
rule computed (R102). Every command answers a next state (60_exceptions.md R242). -/
def command (w : Word) (rule : State → Except ErrCode State) (s : State) : Result :=
  match rule (s.beginCommand w) with
  | .ok t => .next t
  | .error e => .next ((s.beginCommand w).raise e)

end Sys2Proof.Machine
end

