-- ==== Sys2Proof/Machine/Operands.lean ====
section
/-! DEFINITION. Every operand form of 30_encoding.md R86, with the check that goes with it. -/

namespace Sys2Proof.Machine

/-- `ADDR + LEN`, an unbounded integer (20_memory.md R65). -/
def State.viewEnd (s : State) : Nat := s.addr.toNat + s.len.toNat

/-- The input view `view(ADDR, LEN)`. -/
def State.inputView (s : State) : View := s.view s.addr.toNat s.len.toNat

/-- A command that takes a view (20_memory.md R65): RANGE if `ADDR + LEN > BUF_SIZE`, before anything is read. -/
def withView (s : State) (rule : View → State) : Except ErrCode State :=
  if s.viewEnd > s.params.bufSize then .error .range else .ok (rule s.inputView)

/-- CRC_APPEND's view (20_memory.md R65): the four bytes after it must lie in the buffer too. -/
def withViewAndTail (s : State) (rule : View → State) : Except ErrCode State :=
  if s.viewEnd + 4 > s.params.bufSize then .error .range else .ok (rule s.inputView)

/-- `OPA mod 2^33` (44_timestamp.md R180). -/
def State.stampA (s : State) : Stamp := s.opa.setWidth 33

/-- `OPB mod 2^33` (44_timestamp.md R180). -/
def State.stampB (s : State) : Stamp := s.opb.setWidth 33

/-- CRC_SEED's `OPA[31:0]` (42_crc.md R132). -/
def State.seedOperand (s : State) : Word := s.opa.setWidth 32

/-- BR_BITS's `n = OPA`, at most 32 (41_bitreader.md R115). -/
def bitCountOperand (s : State) (rule : Nat → State) : Except ErrCode State :=
  if s.opa.toNat > 32 then .error .badOperand else .ok (rule s.opa.toNat)

/-- FD_CONFIG's PID = OPA, at most 0x1FFF (45_frame_detector.md R191). -/
def pidOperand (s : State) (rule : BitVec 13 → State) : Except ErrCode State :=
  if s.opa.toNat > 0x1FFF then .error .badOperand else .ok (rule (s.opa.setWidth 13))

/-- The BR cursor, which BR_INIT must have started (41_bitreader.md R110). -/
def activeCursor (s : State) (rule : Except ErrCode State) : Except ErrCode State :=
  if s.brState.active then rule else .error .notConfigured

/-- The frame detector, which FD_CONFIG must have set up (45_frame_detector.md R192). -/
def configuredDetector (s : State) (rule : Except ErrCode State) : Except ErrCode State :=
  if s.fdCfg.configured then rule else .error .notConfigured

/-- SEL of the timestamp commands (30_encoding.md R81). -/
inductive TsSel where
  | pts | dts
deriving DecidableEq, Repr

end Sys2Proof.Machine
end

