-- ==== Sys2Proof/Machine/Flags.lean ====
section
/-! DEFINITION. The flag fields as the words the host reads (10_state.md R25, R32, R33, R35, R37, R38), and the STATUS reports
the commands share. -/

namespace Sys2Proof.Machine

/-- A flag as bit `i` of a word. -/
def flagBit (b : Bool) (i : Nat) : Word := if b then 1#32 <<< i else 0

/-- A field as bits from `lo` up of a word. -/
def fieldAt {n : Nat} (v : BitVec n) (lo : Nat) : Word := v.setWidth 32 <<< lo

/-- The codes of 60_exceptions.md R240. -/
def ErrCode.code : ErrCode → BitVec 4
  | .noError => 0
  | .illegal => 1
  | .range => 2
  | .notConfigured => 3
  | .badOperand => 4

/-- STATUS (10_state.md R25). -/
def Status.word (st : Status) : Word :=
  flagBit st.valid 0 ||| flagBit st.needMore 1 ||| flagBit st.malformed 2 ||| flagBit st.newFrame 3 |||
    flagBit st.indepFrame 4 ||| flagBit st.brOvf 5 ||| flagBit st.brEod 6 ||| fieldAt st.err.code 8 |||
    flagBit st.stickyErr 16 ||| flagBit st.busErr 17

/-- BR_STATE (10_state.md R32). -/
def BrState.word (b : BrState) : Word :=
  fieldAt b.bits.cur 0 ||| fieldAt (BitVec.ofNat 4 b.bits.nbits) 8 ||| fieldAt (BitVec.ofNat 2 b.bits.zeros) 12 |||
    flagBit b.bits.raw 16 ||| flagBit b.active 17 ||| flagBit b.bits.pastEnd 18

/-- The KIND codes of 10_state.md R33. -/
def Kind.code : Kind → BitVec 2
  | .audio => 0
  | .mpeg2 => 1
  | .h264 => 2

/-- FD_CFG (10_state.md R33). -/
def FdCfg.word (c : FdCfg) : Word := fieldAt c.pid 0 ||| fieldAt c.kind.code 16 ||| flagBit c.configured 31

/-- FD_H264 (10_state.md R35). -/
def FdH264.word (h : FdH264) : Word :=
  flagBit h.gotAud 0 ||| flagBit h.gotSps 1 ||| flagBit h.frameMbsOnly 2 ||| flagBit h.sepColourPlane 3

/-- FD_RESULT (10_state.md R37). -/
def FdResult.word (r : FdResult) : Word :=
  flagBit r.newFrame 0 ||| flagBit r.indepFrame 1 ||| fieldAt r.frameType 2 ||| flagBit r.fieldPic 5 |||
    flagBit r.bottomField 6 ||| fieldAt r.startOff 8

/-- The RATE_CODE codes of 10_state.md R38. -/
def RateCode.code : RateCode → BitVec 3
  | .undecided => 0
  | .fps25 => 1
  | .fps29_97 => 2
  | .fps50 => 3
  | .fps59_94 => 4
  | .defaultUsed => 5
  | .audioDelta => 6

/-- FD_RATE (10_state.md R38). -/
def FdRate.word (r : FdRate) : Word :=
  flagBit r.synced 0 ||| flagBit r.fieldCoded 1 ||| fieldAt r.rateCode.code 2 ||| flagBit r.iframeSeen 5

/-- FD_NPTS (10_state.md R40): the length of FD_SAMPLES (R42). -/
def State.fdNpts (s : State) : Word := BitVec.ofNat 32 s.fdSamples.length

/-- `STATUS.VALID <- v`. -/
def State.reportValid (s : State) (v : Bool) : State := { s with status := { s.status with valid := v } }

/-- `STATUS.NEED_MORE <- v`. -/
def State.reportNeedMore (s : State) (v : Bool) : State := { s with status := { s.status with needMore := v } }

/-- `STATUS.MALFORMED <- v`. -/
def State.reportMalformed (s : State) (v : Bool) : State := { s with status := { s.status with malformed := v } }

/-- What a BR read command reports (41_bitreader.md R110, R114 to R118): nothing valid past the end or on overflow. -/
def Status.afterBrRead (st : Status) (pastEnd ovf : Bool) : Status :=
  { st with valid := !pastEnd && !ovf, brOvf := ovf, brEod := pastEnd }

end Sys2Proof.Machine
end

