-- ==== Sys2Proof/Machine/Control.lean ====
section
/-! DEFINITION. NOP, CLR_STATUS, SOFT_RESET (40_control.md R103 to R105) and power-on reset (70_reset_and_hazards.md R260). -/

namespace Sys2Proof.Machine

/-- NOP (40_control.md R103). -/
def nopRule (s : State) : Except ErrCode State := .ok s

/-- CLR_STATUS (40_control.md R104). -/
def clrStatusRule (s : State) : Except ErrCode State :=
  .ok { s with status := { s.status with stickyErr := false, busErr := false } }

/-- Every register other than CMD at its reset value and FD_SAMPLES empty (40_control.md R105); CMD, the buffer, the
parameters and what belongs to the outside world are kept. -/
def State.softReset (s : State) : State :=
  { State.resetWith s.params with
    cmd := s.cmd, mem := s.mem, powerCycle := s.powerCycle, freeCount := s.freeCount, host := s.host,
    hostReply := s.hostReply }

/-- SOFT_RESET (40_control.md R105, entry 6). -/
def softResetRule (s : State) : Except ErrCode State := .ok s.softReset

/-- Power-on reset while the host's accesses go on (70_reset_and_hazards.md R260, entry 5): every register at its reset
value and the buffer content unspecified afresh. -/
def State.powerOn (s : State) : State :=
  { State.resetWith s.params with
    powerCycle := s.powerCycle + 1, freeCount := s.freeCount, host := s.host, hostReply := s.hostReply }

/-- NOP. -/
def execNop (s : State) : Result := command (encode .nop) nopRule s

/-- CLR_STATUS. -/
def execClrStatus (s : State) : Result := command (encode .clrStatus) clrStatusRule s

/-- SOFT_RESET. -/
def execSoftReset (s : State) : Result := command (encode .softReset) softResetRule s

end Sys2Proof.Machine
end

