-- ==== Sys2Proof/Machine/Crc.lean ====
section
/-! DEFINITION. The MPEG-2 CRC-32 and the commands over it (42_crc.md R130 to R136). -/

namespace Sys2Proof.Machine

/-- The generator polynomial (42_crc.md R130). -/
def crcPoly : Word := 0x04C11DB7

/-- The seed (42_crc.md R131). -/
def crcSeed : Word := 0xFFFFFFFF

/-- One bit: shift left, subtracting the polynomial when bit 31 leaves (42_crc.md R130). -/
def crcBit (c : Word) : Word := if c.getLsbD 31 then (c <<< 1) ^^^ crcPoly else c <<< 1

/-- `n` bits. -/
def crcBits : Nat → Word → Word
  | 0, c => c
  | n + 1, c => crcBits n (crcBit c)

/-- One byte, entering at the top (42_crc.md R130). -/
def crcByte (c : Word) (d : Byte) : Word := crcBits 8 (c ^^^ (d.setWidth 32 <<< 24))

/-- `crc32_update(c, D)` (42_crc.md R130). -/
def crc32Update (c : Word) (bs : List Byte) : Word := bs.foldl crcByte c

/-- CRC_INIT (42_crc.md R131). -/
def crcInitRule (s : State) : Except ErrCode State :=
  .ok { s.reportValid true with crc := crcSeed, res0 := crcSeed.setWidth 64 }

/-- CRC_SEED (42_crc.md R132). -/
def crcSeedRule (s : State) : Except ErrCode State :=
  .ok { s.reportValid true with crc := s.seedOperand, res0 := s.seedOperand.setWidth 64 }

/-- CRC_UPDATE (42_crc.md R133). -/
def crcUpdateRule (s : State) : Except ErrCode State :=
  withView s fun V =>
    let c := crc32Update s.crc V.bytes
    { s.reportValid (c == 0) with crc := c, res0 := c.setWidth 64 }

/-- CRC_CHECK (42_crc.md R134): the CRC register is read with ACC = 1 and never written. -/
def crcCheckRule (acc : Bool) (s : State) : Except ErrCode State :=
  withView s fun V =>
    let c := crc32Update (if acc then s.crc else crcSeed) V.bytes
    { s.reportValid (c == 0) with res0 := c.setWidth 64 }

/-- CRC_APPEND (42_crc.md R135). -/
def crcAppendRule (s : State) : Except ErrCode State :=
  withViewAndTail s fun V =>
    let c := crc32Update crcSeed V.bytes
    { (s.memWrite s.viewEnd 4 c.toNat).reportValid true with res0 := c.setWidth 64 }

/-- The section_length field: 12 bits over bytes 1 and 2 (42_crc.md R136). -/
def sectionLength (V : View) : Nat := (((V.get 1).toNat &&& 0x0F) <<< 8) ||| (V.get 2).toNat

/-- SECT_CHECK on its view (42_crc.md R136). -/
def sectCheck (V : View) (s : State) : State :=
  if V.len < 3 then { s.reportNeedMore true with res0 := 0, res1 := 0 }
  else
    let sl := sectionLength V
    let total := 3 + sl
    let info := (sl <<< 40) ||| ((V.get 0).toNat <<< 32)
    if total > V.len then { s.reportNeedMore true with res0 := 0, res1 := BitVec.ofNat 64 info }
    else if sl < 4 then { s.reportMalformed true with res0 := 0, res1 := BitVec.ofNat 64 info }
    else
      let c := crc32Update crcSeed (V.bytes.take total)
      { s.reportValid (c == 0) with
        res0 := if c = 0 then BitVec.ofNat 64 total else 0, res1 := BitVec.ofNat 64 (info ||| c.toNat) }

/-- SECT_CHECK (42_crc.md R136). -/
def sectCheckRule (s : State) : Except ErrCode State := withView s fun V => sectCheck V s

/-- CRC_INIT. -/
def execCrcInit (s : State) : Result := command (encode .crcInit) crcInitRule s

/-- CRC_SEED. -/
def execCrcSeed (s : State) : Result := command (encode .crcSeed) crcSeedRule s

/-- CRC_UPDATE. -/
def execCrcUpdate (s : State) : Result := command (encode .crcUpdate) crcUpdateRule s

/-- CRC_CHECK. -/
def execCrcCheck (s : State) : Result := command (encode .crcCheck) (crcCheckRule false) s

/-- CRC_CHECK.ACC. -/
def execCrcCheckAcc (s : State) : Result := command (encode .crcCheckAcc) (crcCheckRule true) s

/-- CRC_APPEND. -/
def execCrcAppend (s : State) : Result := command (encode .crcAppend) crcAppendRule s

/-- SECT_CHECK. -/
def execSectCheck (s : State) : Result := command (encode .sectCheck) sectCheckRule s

end Sys2Proof.Machine
end

