-- ==== Sys2Proof/Machine/BitReader.lean ====
section
/-! DEFINITION. The bit reader (41_bitreader.md R110 to R119): the cursor primitives, written once over any source of bytes (the
BR cursor's view and the frame detector's header reader, 45_frame_detector.md R199, are the two sources), and the BR commands. -/

namespace Sys2Proof.Machine

/-- A cursor over a source of bytes: its bits and where the source stands. -/
structure Reader (σ : Type) where
  bits : BitCursor
  src  : σ
deriving DecidableEq, Repr

/-- A source of bytes: the next byte, none past its end, and the source after it. -/
abbrev Source (σ : Type) := σ → Option Byte × σ

/-- A read through a cursor. -/
abbrev Read (σ α : Type) := StateM (Reader σ) α

/-- `fetch_raw()` (41_bitreader.md R112, 45_frame_detector.md R199): 0 and PASTEND past the end. -/
def fetchRaw {σ : Type} (next : Source σ) : Read σ Byte := fun r =>
  match next r.src with
  | (some b, src) => (b, { r with src := src })
  | (none, src) => (0, { bits := { r.bits with pastEnd := true }, src := src })

/-- The count of consecutive 0x00 bytes after one more byte (41_bitreader.md R113). -/
def zerosAfter (zeros : Nat) (b : Byte) : Nat := if b = 0 then min (zeros + 1) 2 else 0

/-- `fetch()` (41_bitreader.md R113): with RAW = 0 the 0x03 that follows two 0x00 bytes is dropped and the byte after it is
delivered unexamined. -/
def fetch {σ : Type} (next : Source σ) : Read σ Byte := fun r =>
  match fetchRaw next r with
  | (b, r) =>
    if r.bits.raw then (b, { r with bits := { r.bits with zeros := 0, cur := b } })
    else if 2 ≤ r.bits.zeros ∧ b = 0x03#8 then
      match fetchRaw next r with
      | (b, r) => (b, { r with bits := { r.bits with zeros := zerosAfter 0 b, cur := b } })
    else (b, { r with bits := { r.bits with zeros := zerosAfter r.bits.zeros b, cur := b } })

/-- The reader with a byte to take bits from (41_bitreader.md R114): a fresh byte when none is left. -/
def refill {σ : Type} (next : Source σ) (r : Reader σ) : Reader σ :=
  if r.bits.nbits = 0 then
    match fetch next r with
    | (_, r) => { r with bits := { r.bits with nbits := 8 } }
  else r

/-- `get_bit()` (41_bitreader.md R114): most significant bit of each byte first. -/
def getBit {σ : Type} (next : Source σ) : Read σ Bool := fun r =>
  let r := refill next r
  (r.bits.cur.getLsbD (r.bits.nbits - 1), { r with bits := { r.bits with nbits := r.bits.nbits - 1 } })

/-- `n` times `v = (v << 1) | get_bit()` (41_bitreader.md R115), from `v`. -/
def getBitsFrom {σ : Type} (next : Source σ) (v : Nat) : Nat → Read σ Nat
  | 0 => fun r => (v, r)
  | n + 1 => fun r =>
    match getBit next r with
    | (b, r) => getBitsFrom next (2 * v + b.toNat) n r

/-- `get_bits(n)` (41_bitreader.md R115): the first bit most significant. -/
def getBits {σ : Type} (next : Source σ) (n : Nat) : Read σ Nat := getBitsFrom next 0 n

/-- The zero bits before the first 1 bit, that bit read too; none when `fuel` zero bits come first. `z` are counted already. -/
def leadingZeros {σ : Type} (next : Source σ) (z : Nat) : Nat → Read σ (Option Nat)
  | 0 => fun r => (none, r)
  | fuel + 1 => fun r =>
    match getBit next r with
    | (true, r) => (some z, r)
    | (false, r) => leadingZeros next (z + 1) fuel r

/-- `ue()` (41_bitreader.md R116): the value, and whether 32 zero bits were read without a 1 (value 0xFFFFFFFF). -/
def readUe {σ : Type} (next : Source σ) : Read σ (Nat × Bool) := fun r =>
  match leadingZeros next 0 32 r with
  | (none, r) => ((0xFFFFFFFF, true), r)
  | (some z, r) =>
    match getBits next z r with
    | (x, r) => ((2 ^ z - 1 + x, false), r)

/-- se(v) from the ue value `k` and its overflow (41_bitreader.md R117). -/
def seOfUe (k : Nat) (ovf : Bool) : Int :=
  if ovf then -(2 ^ 31 : Int) else if k % 2 = 1 then ((k + 1) / 2 : Nat) else -((k / 2 : Nat) : Int)

/-- `se()` (41_bitreader.md R117). -/
def readSe {σ : Type} (next : Source σ) : Read σ (Int × Bool) := fun r =>
  match readUe next r with
  | ((k, ovf), r) => ((seOfUe k ovf, ovf), r)

/-- `byte()` (41_bitreader.md R118): the unread bits of the current byte are dropped. -/
def readByte {σ : Type} (next : Source σ) : Read σ Byte := fun r =>
  fetch next { r with bits := { r.bits with nbits := 0 } }

/-- The BR cursor's source (41_bitreader.md R112): the bytes of the view as the buffer stands (20_memory.md R77), by BR_IDX,
which stays at BR_LEN at the end. -/
def State.brSource (s : State) : Source Word := fun idx =>
  if idx.toNat < s.brLen.toNat then (some (s.bufByte (s.brBase.toNat + idx.toNat)), idx + 1) else (none, idx)

/-- The BR cursor (41_bitreader.md R110). -/
def State.brReader (s : State) : Reader Word := { bits := s.brState.bits, src := s.brIdx }

/-- The BR cursor after a read, the value in RES0 and STATUS as 41_bitreader.md R114 to R118 say. -/
def State.endBrRead (s : State) (r : Reader Word) (v : DWord) (ovf : Bool) : State :=
  { s with
    brIdx := r.src, brState := { s.brState with bits := r.bits }, res0 := v,
    status := s.status.afterBrRead r.bits.pastEnd ovf }

/-- BR_INIT (41_bitreader.md R111). -/
def brInitRule (raw : Bool) (s : State) : Except ErrCode State :=
  withView s fun _ =>
    { s.reportValid true with
      brBase := s.addr, brLen := s.len, brIdx := 0, brState := { bits := .fresh raw, active := true } }

/-- BR_BIT (41_bitreader.md R114). -/
def brBitRule (s : State) : Except ErrCode State :=
  activeCursor s <|
    let (b, r) := getBit s.brSource s.brReader
    .ok (s.endBrRead r (BitVec.ofNat 64 b.toNat) false)

/-- BR_BITS (41_bitreader.md R115). -/
def brBitsRule (s : State) : Except ErrCode State :=
  activeCursor s <| bitCountOperand s fun n =>
    let (v, r) := getBits s.brSource n s.brReader
    s.endBrRead r (BitVec.ofNat 64 v) false

/-- BR_UE (41_bitreader.md R116). -/
def brUeRule (s : State) : Except ErrCode State :=
  activeCursor s <|
    let ((v, ovf), r) := readUe s.brSource s.brReader
    .ok (s.endBrRead r (BitVec.ofNat 64 v) ovf)

/-- BR_SE (41_bitreader.md R117). -/
def brSeRule (s : State) : Except ErrCode State :=
  activeCursor s <|
    let ((v, ovf), r) := readSe s.brSource s.brReader
    .ok (s.endBrRead r (BitVec.ofInt 64 v) ovf)

/-- BR_BYTE (41_bitreader.md R118). -/
def brByteRule (s : State) : Except ErrCode State :=
  activeCursor s <|
    let (b, r) := readByte s.brSource s.brReader
    .ok (s.endBrRead r (b.setWidth 64) false)

/-- BR_INIT. -/
def execBrInit (s : State) : Result := command (encode .brInit) (brInitRule false) s

/-- BR_INIT.RAW. -/
def execBrInitRaw (s : State) : Result := command (encode .brInitRaw) (brInitRule true) s

/-- BR_BIT. -/
def execBrBit (s : State) : Result := command (encode .brBit) brBitRule s

/-- BR_BITS. -/
def execBrBits (s : State) : Result := command (encode .brBits) brBitsRule s

/-- BR_UE. -/
def execBrUe (s : State) : Result := command (encode .brUe) brUeRule s

/-- BR_SE. -/
def execBrSe (s : State) : Result := command (encode .brSe) brSeRule s

/-- BR_BYTE. -/
def execBrByte (s : State) : Result := command (encode .brByte) brByteRule s

end Sys2Proof.Machine
end

