-- ==== Sys2Proof/Machine/Timestamp.lean ====
section
/-! DEFINITION. 33-bit timestamp arithmetic (44_timestamp.md R180 to R184). -/

namespace Sys2Proof.Machine

/-- `u = (b - a) mod 2^33` (44_timestamp.md R181). -/
def stampResidue (a b : Stamp) : Nat := (((b.toNat : Int) - a.toNat) % 2 ^ 33).toNat

/-- `T33_DIFF(a, b)`: the representative of `b - a` in `[-2^32, 2^32 - 1]` (44_timestamp.md R181). -/
def stampDiff (a b : Stamp) : Int :=
  if stampResidue a b ≥ 2 ^ 32 then (stampResidue a b : Int) - 2 ^ 33 else stampResidue a b

/-- "`y` is after `x`" on the circle (44_timestamp.md R184). -/
def stampAfter (x y : Stamp) : Bool := decide (stampDiff x y > 0)

/-- T33_DIFF (44_timestamp.md R181). -/
def t33DiffRule (s : State) : Except ErrCode State :=
  .ok { s.reportValid true with
    res0 := BitVec.ofInt 64 (stampDiff s.stampA s.stampB), res1 := BitVec.ofNat 64 (stampResidue s.stampA s.stampB) }

/-- T33_ADD (44_timestamp.md R182). -/
def t33AddRule (s : State) : Except ErrCode State :=
  .ok { s.reportValid true with res0 := BitVec.ofNat 64 ((s.stampA.toNat + s.stampB.toNat) % 2 ^ 33) }

/-- T33_DIFF. -/
def execT33Diff (s : State) : Result := command (encode .t33Diff) t33DiffRule s

/-- T33_ADD. -/
def execT33Add (s : State) : Result := command (encode .t33Add) t33AddRule s

end Sys2Proof.Machine
end

