-- ==== Sys2Proof/Machine/TsPes.lean ====
section
/-! DEFINITION. TS packet headers, PCR, PES headers and the timestamps in them (43_ts_pes.md R150 to R164). -/

namespace Sys2Proof.Machine

/-- "all ones": the result of a field that is not present (43_ts_pes.md R152, R156). -/
def absent64 : DWord := 0xFFFFFFFFFFFFFFFF

/-- The fields of a TS packet header (43_ts_pes.md R150). -/
structure TsFields where
  sync    : Bool
  tei     : Bool
  pusi    : Bool
  tp      : Bool
  pid     : BitVec 13
  tsc     : BitVec 2
  afc     : BitVec 2
  cc      : BitVec 4
  adapt   : Bool
  payload : Bool
  off     : Nat
  plen    : Nat
  hasPcr  : Bool
deriving DecidableEq, Repr

/-- `off`: the payload offset within the packet (43_ts_pes.md R150). -/
def payloadOffset (P : View) : Nat :=
  if (P.get 3).getLsbD 5 then min (5 + (P.get 4).toNat) 188 else 4

/-- `ts_fields(P)` (43_ts_pes.md R150; C1). -/
def tsFields (P : View) : TsFields :=
  { sync := P.get 0 == 0x47#8
    tei := (P.get 1).getLsbD 7
    pusi := (P.get 1).getLsbD 6
    tp := (P.get 1).getLsbD 5
    pid := (P.get 1).extractLsb' 0 5 ++ P.get 2
    tsc := (P.get 3).extractLsb' 6 2
    afc := (P.get 3).extractLsb' 4 2
    cc := (P.get 3).extractLsb' 0 4
    adapt := (P.get 3).getLsbD 5
    payload := (P.get 3).getLsbD 4
    off := payloadOffset P
    plen := if (P.get 3).getLsbD 4 then 188 - payloadOffset P else 0
    hasPcr := (P.get 3).getLsbD 5 && decide (7 ≤ (P.get 4).toNat) && (P.get 5).getLsbD 4 }

/-- TS_HDR's RES0 (43_ts_pes.md R151). -/
def tsHdrWord0 (f : TsFields) : Nat :=
  f.pid.toNat ||| (f.tp.toNat <<< 13) ||| (f.pusi.toNat <<< 14) ||| (f.tei.toNat <<< 15) ||| (f.afc.toNat <<< 16) |||
    (f.tsc.toNat <<< 18) ||| (f.cc.toNat <<< 20)

/-- TS_HDR's RES1 (43_ts_pes.md R151). -/
def tsHdrWord1 (f : TsFields) : Nat :=
  f.off ||| (f.plen <<< 8) ||| (f.hasPcr.toNat <<< 16) ||| ((f.pid == 0x1FFF#13).toNat <<< 17)

/-- TS_HDR (43_ts_pes.md R151; C9). -/
def tsHdrRule (s : State) : Except ErrCode State :=
  withView s fun V =>
    let f := tsFields V
    let whole := decide (188 ≤ V.len)
    let bad := whole && (!f.sync || (f.adapt && decide ((V.get 4).toNat > 183)))
    { ((s.reportNeedMore !whole).reportMalformed bad).reportValid (whole && !bad) with
      res0 := BitVec.ofNat 64 (tsHdrWord0 f), res1 := BitVec.ofNat 64 (tsHdrWord1 f) }

/-- The 33-bit PCR base (43_ts_pes.md R152). -/
def pcrBase (V : View) : Nat :=
  ((V.get 6).toNat <<< 25) ||| ((V.get 7).toNat <<< 17) ||| ((V.get 8).toNat <<< 9) ||| ((V.get 9).toNat <<< 1) |||
    ((V.get 10).toNat >>> 7)

/-- The 9-bit PCR extension (43_ts_pes.md R152). -/
def pcrExt (V : View) : Nat := (((V.get 10).toNat &&& 0x01) <<< 8) ||| (V.get 11).toNat

/-- The packet has a PCR field inside the view (43_ts_pes.md R152, R153). -/
def pcrPresent (V : View) : Bool := (tsFields V).hasPcr && decide (12 ≤ V.len)

/-- TS_PCR_GET (43_ts_pes.md R152; C8). -/
def tsPcrGetRule (s : State) : Except ErrCode State :=
  withView s fun V =>
    if pcrPresent V then
      { s.reportValid true with
        res0 := BitVec.ofNat 64 (pcrBase V * 300 + pcrExt V)
        res1 := BitVec.ofNat 64 (pcrBase V ||| (pcrExt V <<< 40)) }
    else { s with res0 := absent64, res1 := absent64 }

/-- The six PCR bytes: the base, six reserved bits written as 1, the extension (43_ts_pes.md R153). -/
def pcrBytes (base ext : Nat) : List Byte :=
  [BitVec.ofNat 8 (base >>> 25), BitVec.ofNat 8 (base >>> 17), BitVec.ofNat 8 (base >>> 9), BitVec.ofNat 8 (base >>> 1),
    BitVec.ofNat 8 (((base % 2) <<< 7) ||| 0x7E ||| ((ext >>> 8) % 2)), BitVec.ofNat 8 ext]

/-- TS_PCR_SET (43_ts_pes.md R153). -/
def tsPcrSetRule (s : State) : Except ErrCode State :=
  withView s fun V =>
    if pcrPresent V then
      let base := (s.opa.toNat / 300) % 2 ^ 33
      let ext := s.opa.toNat % 300
      { (s.setBytes (V.base + 6) (pcrBytes base ext)).reportValid true with res0 := BitVec.ofNat 64 (base * 300 + ext) }
    else { s with res0 := absent64 }

/-- `pos(SEL)` (43_ts_pes.md R154). -/
def TsSel.pos : TsSel → Nat
  | .pts => 9
  | .dts => 14

/-- `has_ts(P, SEL)` (43_ts_pes.md R154). -/
def hasTs (P : View) : TsSel → Bool
  | .pts => (P.get 7).getLsbD 7 && decide (5 ≤ (P.get 8).toNat) && decide (14 ≤ P.len)
  | .dts => (P.get 7).getLsbD 6 && decide (10 ≤ (P.get 8).toNat) && decide (19 ≤ P.len)

/-- `ts_decode(b0, b1, b2, b3, b4)` (43_ts_pes.md R160). -/
def tsDecode (b0 b1 b2 b3 b4 : Byte) : Stamp :=
  ((b0 &&& 0x0E).setWidth 33 <<< 29) ||| (b1.setWidth 33 <<< 22) ||| ((b2 &&& 0xFE).setWidth 33 <<< 14) |||
    (b3.setWidth 33 <<< 7) ||| ((b4 &&& 0xFE).setWidth 33 >>> 1)

/-- `ts_encode(v, old0)` (43_ts_pes.md R161). -/
def tsEncode (v : Stamp) (old0 : Byte) : List Byte :=
  [((v >>> 29).setWidth 8 &&& 0x0E) ||| (old0 &&& 0xF1), (v >>> 22).setWidth 8, ((v >>> 14).setWidth 8 &&& 0xFE) ||| 0x01,
    (v >>> 7).setWidth 8, ((v <<< 1).setWidth 8 &&& 0xFE) ||| 0x01]

/-- The timestamp field at `pos(SEL)` of a PES header (43_ts_pes.md R156). -/
def View.stampAt (P : View) (p : Nat) : Stamp :=
  tsDecode (P.get p) (P.get (p + 1)) (P.get (p + 2)) (P.get (p + 3)) (P.get (p + 4))

/-- The kinds of `analyze` (43_ts_pes.md R155). -/
inductive PesKind where
  | needMore | invalid | mpeg1 | mpeg2
deriving DecidableEq, Repr

/-- The kind codes of 43_ts_pes.md R155. -/
def PesKind.code : PesKind → Nat
  | .needMore => 0
  | .invalid => 1
  | .mpeg1 => 2
  | .mpeg2 => 3

/-- The result `(kind, off, cont)` of `analyze` (43_ts_pes.md R155). -/
structure PesInfo where
  kind : PesKind
  off  : Nat
  cont : Bool
deriving DecidableEq, Repr

/-- `(0, 0, 0)`. -/
def PesInfo.needMore : PesInfo := { kind := .needMore, off := 0, cont := false }

/-- The MPEG-1 stuffing bytes, at most 16 (43_ts_pes.md R155): the offset after them, none when the header ends first. -/
def skipStuffing (P : View) (n : Nat) : Nat → Nat → Option Nat
  | 0, off => some off
  | k + 1, off =>
    if P.get off = 0xFF#8 then
      if n ≤ off + 1 then none else skipStuffing P n k (off + 1)
    else some off

/-- The MPEG-1 STD_buffer field, two bytes (43_ts_pes.md R155). -/
def skipStdBuffer (P : View) (n off : Nat) : Option Nat :=
  if P.get off &&& 0xC0#8 = 0x40#8 then
    if n ≤ off + 2 then none else some (off + 2)
  else some off

/-- The MPEG-1 PTS, PTS and DTS, or continuation byte (43_ts_pes.md R155). -/
def analyzeMpeg1Tail (P : View) (n off : Nat) : PesInfo :=
  let done (off : Nat) (cont : Bool) : PesInfo :=
    if n < off then .needMore else { kind := .mpeg1, off := off, cont := cont }
  if P.get off &&& 0xF0#8 = 0x20#8 then done (off + 5) false
  else if P.get off &&& 0xF0#8 = 0x30#8 then done (off + 10) false
  else if P.get off = 0x0F#8 then done (off + 1) true
  else { kind := .invalid, off := 0, cont := false }

/-- `analyze(V, n)` for a header that is not MPEG-2 (43_ts_pes.md R155). -/
def analyzeMpeg1 (P : View) (n : Nat) : PesInfo :=
  match skipStuffing P n 16 6 with
  | none => .needMore
  | some off =>
    match skipStdBuffer P n off with
    | none => .needMore
    | some off => analyzeMpeg1Tail P n off

/-- `analyze(V, n)` (43_ts_pes.md R155). -/
def analyze (P : View) (n : Nat) : PesInfo :=
  if n < 7 then .needMore
  else if P.get 6 &&& 0xC0#8 = 0x80#8 then
    if n < 9 then .needMore
    else if n < 9 + (P.get 8).toNat then .needMore
    else
      { kind := .mpeg2, off := 9 + (P.get 8).toNat
        cont := P.get 6 == 0x80#8 && P.get 7 == 0#8 && P.get 8 == 0#8 }
  else analyzeMpeg1 P n

/-- PES_ANALYZE (43_ts_pes.md R155; C3). -/
def pesAnalyzeRule (s : State) : Except ErrCode State :=
  withView s fun V =>
    let a := analyze V V.len
    { ((s.reportNeedMore (a.kind == .needMore)).reportMalformed (a.kind == .invalid)).reportValid
        (a.kind == .mpeg1 || a.kind == .mpeg2) with
      res0 := BitVec.ofNat 64 (a.kind.code ||| (a.cont.toNat <<< 8)), res1 := BitVec.ofNat 64 a.off }

/-- PES_GET_TS (43_ts_pes.md R156). -/
def pesGetTsRule (sel : TsSel) (s : State) : Except ErrCode State :=
  withView s fun V =>
    if hasTs V sel then { s.reportValid true with res0 := (V.stampAt sel.pos).setWidth 64 }
    else { s with res0 := absent64 }

/-- PES_SET_TS (43_ts_pes.md R157). -/
def pesSetTsRule (sel : TsSel) (s : State) : Except ErrCode State :=
  withView s fun V =>
    if hasTs V sel then
      { (s.setBytes (V.base + sel.pos) (tsEncode s.stampA (V.get sel.pos))).reportValid true with
        res0 := s.stampA.setWidth 64 }
    else { s with res0 := absent64 }

/-- The `k`-th TS packet of a view, clipped to it (43_ts_pes.md R162). -/
def packetAt (V : View) (k : Nat) : View := V.sub (k * 188) (min 188 (V.len - k * 188))

/-- The PES header at the payload of a packet (43_ts_pes.md R162). -/
def pesOf (P : View) : View := P.sub (tsFields P).off (P.len - (tsFields P).off)

/-- The packet starts a PES unit that carries the timestamp (43_ts_pes.md R162). -/
def carriesTs (P : View) (sel : TsSel) : Bool :=
  (tsFields P).pusi && (tsFields P).payload && decide ((tsFields P).plen > 0) && hasTs (pesOf P) sel

/-- `scan_ts` from packet `k` on, for at most `fuel` packets (43_ts_pes.md R162). -/
def scanTsFrom (V : View) (sel : TsSel) : Nat → Nat → Option (Nat × View)
  | 0, _ => none
  | fuel + 1, k =>
    if k * 188 < V.len then
      if carriesTs (packetAt V k) sel then some (k, pesOf (packetAt V k)) else scanTsFrom V sel fuel (k + 1)
    else none

/-- `scan_ts(V, SEL)` (43_ts_pes.md R162): the packet's number and its PES header. -/
def scanTs (V : View) (sel : TsSel) : Option (Nat × View) := scanTsFrom V sel (V.len / 188 + 1) 0

/-- TS_FIND_TS (43_ts_pes.md R158). -/
def tsFindTsRule (sel : TsSel) (s : State) : Except ErrCode State :=
  withView s fun V =>
    match scanTs V sel with
    | none => { s with res0 := absent64, res1 := absent64 }
    | some (k, Q) =>
      { s.reportValid true with res0 := (Q.stampAt sel.pos).setWidth 64, res1 := BitVec.ofNat 64 (k * 188) }

/-- TS_SET_TS (43_ts_pes.md R159). -/
def tsSetTsRule (sel : TsSel) (s : State) : Except ErrCode State :=
  withView s fun V =>
    match scanTs V sel with
    | none => { s with res0 := absent64, res1 := absent64 }
    | some (k, Q) =>
      { (s.setBytes (Q.base + sel.pos) (tsEncode s.stampA (Q.get sel.pos))).reportValid true with
        res0 := s.stampA.setWidth 64, res1 := BitVec.ofNat 64 (k * 188) }

/-- TS_HDR. -/
def execTsHdr (s : State) : Result := command (encode .tsHdr) tsHdrRule s

/-- TS_PCR_GET. -/
def execTsPcrGet (s : State) : Result := command (encode .tsPcrGet) tsPcrGetRule s

/-- TS_PCR_SET. -/
def execTsPcrSet (s : State) : Result := command (encode .tsPcrSet) tsPcrSetRule s

/-- PES_ANALYZE. -/
def execPesAnalyze (s : State) : Result := command (encode .pesAnalyze) pesAnalyzeRule s

/-- PES_GET_TS.PTS. -/
def execPesGetTsPts (s : State) : Result := command (encode .pesGetTsPts) (pesGetTsRule .pts) s

/-- PES_GET_TS.DTS. -/
def execPesGetTsDts (s : State) : Result := command (encode .pesGetTsDts) (pesGetTsRule .dts) s

/-- PES_SET_TS.PTS. -/
def execPesSetTsPts (s : State) : Result := command (encode .pesSetTsPts) (pesSetTsRule .pts) s

/-- PES_SET_TS.DTS. -/
def execPesSetTsDts (s : State) : Result := command (encode .pesSetTsDts) (pesSetTsRule .dts) s

/-- TS_FIND_TS.PTS. -/
def execTsFindTsPts (s : State) : Result := command (encode .tsFindTsPts) (tsFindTsRule .pts) s

/-- TS_FIND_TS.DTS. -/
def execTsFindTsDts (s : State) : Result := command (encode .tsFindTsDts) (tsFindTsRule .dts) s

/-- TS_SET_TS.PTS. -/
def execTsSetTsPts (s : State) : Result := command (encode .tsSetTsPts) (tsSetTsRule .pts) s

/-- TS_SET_TS.DTS. -/
def execTsSetTsDts (s : State) : Result := command (encode .tsSetTsDts) (tsSetTsRule .dts) s

end Sys2Proof.Machine
end

