-- ==== Sys2Proof/Machine/FrameDetector.lean ====
section
/-! DEFINITION. The frame boundary detector (45_frame_detector.md R190 to R209): FD_CONFIG, FD_PACKET, the audio, MPEG-2 and
H.264 parsers and their header reader. The frame-rate inference is in Machine/FrameRate.lean. -/

namespace Sys2Proof.Machine

/-- FD_CONFIG (45_frame_detector.md R191). -/
def fdConfigRule (kind : Kind) (s : State) : Except ErrCode State :=
  pidOperand s fun pid =>
    { s.reportValid true with
      fdCfg := { pid := pid, kind := kind, configured := true }, fdScanner := 0xFFFFFFFF, fdH264 := .zero, fdLog2mfn := 0,
      fdResult := .zero, fdRate := .zero, fdDuration := 0, fdSamples := [] }

/-- `skip_count` from index `i` on, for at most `fuel` indices (45_frame_detector.md R194). -/
def skipCountFrom (V : View) : Nat → Nat → Nat
  | 0, _ => V.len
  | fuel + 1, i =>
    if i < V.len then
      if V.get i = 0x47#8 ∧ (V.len - i ≤ 188 ∨ V.get (i + 188) = 0x47#8) then i else skipCountFrom V fuel (i + 1)
    else V.len

/-- `skip_count(V)` (45_frame_detector.md R194). -/
def skipCount (V : View) : Nat := skipCountFrom V V.len 1

/-- `accept(f)` (45_frame_detector.md R195). -/
def accepts (pid : BitVec 13) (f : TsFields) : Bool := f.pid == pid && f.payload && f.tsc == 0#2

/-- The audio parser (45_frame_detector.md R196; C3). -/
def parseAudio (f : TsFields) : FdResult :=
  if f.pusi then { FdResult.zero with newFrame := true, indepFrame := true, startOff := BitVec.ofNat 8 f.off } else .zero

/-- Scanning one byte (45_frame_detector.md R197). -/
def scanByte (scanner : Word) (b : Byte) : Word := (scanner <<< 8) ||| b.setWidth 32

/-- Where the scan of a packet starts (45_frame_detector.md R198). -/
def scanStart (V : View) (f : TsFields) : Nat :=
  if f.pusi then
    let a := analyze (V.sub f.off (188 - f.off)) (188 - f.off)
    if a.kind = .mpeg1 ∨ a.kind = .mpeg2 then f.off + a.off else f.off
  else f.off

/-- The lookahead list `L` (45_frame_detector.md R199), from packet `k` on, for at most `fuel` packets. -/
def lookaheadFrom (V : View) (pid : BitVec 13) : Nat → Nat → List Byte
  | 0, _ => []
  | fuel + 1, k =>
    if (k + 1) * 188 ≤ V.len then
      let P := V.sub (k * 188) 188
      let g := tsFields P
      if P.get 0 ≠ 0x47#8 then []
      else if g.pid = pid then
        if g.pusi || g.tsc != 0#2 then []
        else (if g.payload && decide (g.plen > 0) then P.bytes.drop g.off else []) ++ lookaheadFrom V pid fuel (k + 1)
      else lookaheadFrom V pid fuel (k + 1)
    else []

/-- The lookahead list `L` of a view (45_frame_detector.md R199). -/
def lookahead (V : View) (pid : BitVec 13) : List Byte := lookaheadFrom V pid (V.len / 188) 1

/-- Where the header reader stands (45_frame_detector.md R199): `H.pos`, `H.left`, and the bytes of `L` from `H.li` on. -/
structure HeaderSource where
  pos   : Nat
  left  : Bool
  ahead : List Byte
deriving DecidableEq, Repr

/-- `H.fetch_raw` (45_frame_detector.md R199). -/
def headerNext (V : View) : Source HeaderSource := fun h =>
  if h.pos < 188 then (some (V.get h.pos), { h with pos := h.pos + 1 })
  else
    match h.ahead with
    | b :: bs => (some b, { h with left := true, ahead := bs })
    | [] => (none, { h with left := true })

/-- A header reader made at the start code whose last byte is at `here` (45_frame_detector.md R199). -/
def headerReader (here : Nat) (ahead : List Byte) (raw : Bool) : Reader HeaderSource :=
  { bits := .fresh raw, src := { pos := here + 1, left := false, ahead := ahead } }

/-- What a video parser leaves: the scanner, the H.264 flags and FD_LOG2MFN, the result record. -/
structure ScanState where
  scanner : Word
  flags   : FdH264
  log2mfn : Word
  result  : FdResult
deriving DecidableEq, Repr

/-- The MPEG-2 picture header: picture_coding_type (45_frame_detector.md R200). -/
def readPictureType (V : View) : Read HeaderSource (BitVec 3) := do
  let _ ← readByte (headerNext V)
  let t2 ← readByte (headerNext V)
  return t2.extractLsb' 3 3

/-- The MPEG-2 scan from packet offset `pos` (45_frame_detector.md R200, R201; C4); `fuel` bounds the offsets left. -/
def mpeg2Scan (V : View) (ahead : List Byte) : Nat → Nat → ScanState → ScanState
  | 0, _, c => c
  | fuel + 1, pos, c =>
    if pos < 188 then
      let c := { c with scanner := scanByte c.scanner (V.get pos) }
      if c.scanner = 0x00000100#32 then
        let pct := (readPictureType V (headerReader pos ahead true)).1
        { c with result :=
            { FdResult.zero with
              newFrame := true, indepFrame := pct == 1#3, frameType := pct, startOff := BitVec.ofNat 8 pos } }
      else mpeg2Scan V ahead fuel (pos + 1) c
    else c

/-- `H.skip(n)` (45_frame_detector.md R208): `n` bits dropped, stopping at PASTEND as R209 allows (entry 10). -/
def skipBits {σ : Type} (next : Source σ) : Nat → Read σ Unit
  | 0 => return ()
  | n + 1 => do
    if (← get).bits.pastEnd then return ()
    else
      let _ ← getBit next
      skipBits next n

/-- `repeat n times: H.se()` (45_frame_detector.md R206), stopping at PASTEND as R209 allows (entry 10). -/
def skipSes {σ : Type} (next : Source σ) : Nat → Read σ Unit
  | 0 => return ()
  | n + 1 => do
    if (← get).bits.pastEnd then return ()
    else
      let _ ← readSe next
      skipSes next n

/-- `scaling_list(H, size)` (45_frame_detector.md R207), from `last` and `next`. -/
def skipScalingList {σ : Type} (next : Source σ) : Nat → Int → Int → Read σ Unit
  | 0, _, _ => return ()
  | n + 1, last, nxt => do
    if nxt ≠ 0 then
      let (delta, _) ← readSe next
      let nxt' := (last + delta + 256) % 256
      skipScalingList next n (if nxt' ≠ 0 then nxt' else last) nxt'
    else skipScalingList next n last nxt

/-- The scaling lists from list `i` on, `count` of them (45_frame_detector.md R206). -/
def skipScalingLists {σ : Type} (next : Source σ) (i : Nat) : Nat → Read σ Unit
  | 0 => return ()
  | count + 1 => do
    if ← getBit next then skipScalingList next (if i < 6 then 16 else 64) 8 8
    skipScalingLists next (i + 1) count

/-- The profiles with the chroma and scaling-list fields (45_frame_detector.md R206). -/
def highProfiles : List Nat := [100, 110, 122, 244, 44, 83, 86, 118, 128]

/-- The chroma and scaling-list fields of a high profile: separate_colour_plane_flag (45_frame_detector.md R206). -/
def readChroma {σ : Type} (next : Source σ) : Read σ Bool := do
  let (chroma, _) ← readUe next
  let sep ← if chroma = 3 then getBit next else pure false
  let _ ← readUe next
  let _ ← readUe next
  let _ ← getBit next
  if ← getBit next then skipScalingLists next 0 (if chroma ≠ 3 then 8 else 12)
  return sep

/-- The picture order count fields (45_frame_detector.md R206). -/
def skipPocFields {σ : Type} (next : Source σ) : Read σ Unit := do
  let (pocType, _) ← readUe next
  if pocType = 0 then
    let _ ← readUe next
  else if pocType = 1 then
    let _ ← getBit next
    let _ ← readSe next
    let _ ← readSe next
    let (n, _) ← readUe next
    skipSes next n

/-- What an SPS gives: separate_colour_plane_flag, log2_max_frame_num and frame_mbs_only_flag. -/
structure SpsFields where
  sepColourPlane : Bool
  log2mfn        : Word
  frameMbsOnly   : Bool
deriving DecidableEq, Repr

/-- `sps(H)` (45_frame_detector.md R206). -/
def readSps {σ : Type} (next : Source σ) : Read σ SpsFields := do
  let profile ← readByte next
  let _ ← readByte next
  let _ ← readByte next
  let _ ← readUe next
  let sep ← if highProfiles.contains profile.toNat then readChroma next else pure false
  let (m, _) ← readUe next
  skipPocFields next
  let _ ← readUe next
  let _ ← getBit next
  let _ ← readUe next
  let _ ← readUe next
  let mbs ← getBit next
  return { sepColourPlane := sep, log2mfn := BitVec.ofNat 32 (min (m + 4) 0xFFFFFFFF), frameMbsOnly := mbs }

/-- What a slice header gives: slice_type, field_pic_flag and bottom_field_flag. -/
structure SliceFields where
  sliceType : Nat
  fieldPic  : Bool
  bottom    : Bool
deriving DecidableEq, Repr

/-- `slice(H, R, here)` as far as the field-parity bit (45_frame_detector.md R208). -/
def readSlice {σ : Type} (next : Source σ) (flags : FdH264) (log2mfn : Word) : Read σ SliceFields := do
  let _ ← readUe next
  let (sliceType, _) ← readUe next
  let _ ← readUe next
  if flags.sepColourPlane then
    let _ ← getBits next 2
  skipBits next log2mfn.toNat
  if flags.frameMbsOnly then return { sliceType := sliceType, fieldPic := false, bottom := false }
  else
    let fieldPic ← getBit next
    let bottom ← if fieldPic then getBit next else pure false
    return { sliceType := sliceType, fieldPic := fieldPic, bottom := bottom }

/-- The classification of a slice (45_frame_detector.md R208; C6). -/
def classifySlice (f : SliceFields) (here : Nat) : FdResult :=
  let new := !(f.fieldPic && f.bottom)
  { newFrame := new, indepFrame := new && f.sliceType % 5 == 2, frameType := BitVec.ofNat 3 (f.sliceType % 5),
    fieldPic := f.fieldPic, bottomField := f.bottom, startOff := BitVec.ofNat 8 here }

/-- FD_H264 and FD_LOG2MFN after an SPS (45_frame_detector.md R206). -/
def ScanState.withSps (c : ScanState) (p : SpsFields) : ScanState :=
  { c with
    flags := { c.flags with sepColourPlane := p.sepColourPlane, frameMbsOnly := p.frameMbsOnly, gotSps := true }
    log2mfn := p.log2mfn }

/-- The H.264 scan from packet offset `pos` (45_frame_detector.md R202, R205, R206, R208); `fuel` bounds the offsets left. -/
def h264Scan (V : View) (ahead : List Byte) : Nat → Nat → ScanState → ScanState
  | 0, _, c => c
  | fuel + 1, pos, c =>
    if pos < 188 then
      let c := { c with scanner := scanByte c.scanner (V.get pos) }
      if c.scanner &&& 0xFFFFFF00#32 = 0x00000100#32 then
        let nut := (V.get pos).toNat % 32
        if nut = 9 then
          h264Scan V ahead fuel (pos + 1) { c with flags := { c.flags with gotAud := true } }
        else if nut = 7 then
          let (p, H) := readSps (headerNext V) (headerReader pos ahead false)
          if H.src.left then c.withSps p else h264Scan V ahead fuel H.src.pos (c.withSps p)
        else if (nut = 1 ∨ nut = 5) ∧ c.flags.gotAud ∧ c.flags.gotSps then
          let f := (readSlice (headerNext V) c.flags c.log2mfn (headerReader pos ahead false)).1
          { c with result := classifySlice f pos, flags := { c.flags with gotAud := false } }
        else h264Scan V ahead fuel (pos + 1) c
      else h264Scan V ahead fuel (pos + 1) c
    else c

/-- The parser FD_CFG.KIND selects, on an accepted packet (45_frame_detector.md R192). -/
def parsePacket (V : View) (f : TsFields) (cfg : FdCfg) (c : ScanState) : ScanState :=
  match cfg.kind with
  | .audio => { c with result := parseAudio f }
  | .mpeg2 => mpeg2Scan V (lookahead V cfg.pid) 188 (scanStart V f) c
  | .h264 => h264Scan V (lookahead V cfg.pid) 188 (scanStart V f) c

/-- What the parser starts from: the registers, a fresh result record, the scanner emptied at a payload start
(45_frame_detector.md R192, R197). -/
def State.scanState (s : State) (f : TsFields) : ScanState :=
  { scanner := if f.pusi then 0xFFFFFFFF else s.fdScanner, flags := s.fdH264, log2mfn := s.fdLog2mfn, result := .zero }

end Sys2Proof.Machine
end

