-- ==== Sys2Proof/Machine/FrameRate.lean ====
section
/-! DEFINITION. The frame-rate inference (45_frame_detector.md R211 to R214) and the FD commands (R191, R192). -/

namespace Sys2Proof.Machine

/-- Insert into an ascending list. -/
def insertAscending (x : Nat) : List Nat → List Nat
  | [] => [x]
  | y :: ys => if x ≤ y then x :: y :: ys else y :: insertAscending x ys

/-- Sorted ascending (45_frame_detector.md R213). -/
def sortAscending : List Nat → List Nat
  | [] => []
  | x :: xs => insertAscending x (sortAscending xs)

/-- The differences of neighbours, where they differ (45_frame_detector.md R213). -/
def neighbourDeltas : List Nat → List Nat
  | x :: y :: rest => if y ≠ x then (y - x) :: neighbourDeltas (y :: rest) else neighbourDeltas (y :: rest)
  | _ => []

/-- How often a value occurs. -/
def occurrences (d : Nat) : List Nat → Nat
  | [] => 0
  | x :: xs => (if x = d then 1 else 0) + occurrences d xs

/-- The better of two values of `ds`: the one occurring more often, the lesser of two occurring equally often. -/
def betterDelta (ds : List Nat) (a b : Nat) : Nat :=
  if occurrences a ds < occurrences b ds ∨ (occurrences a ds = occurrences b ds ∧ b < a) then b else a

/-- The best of the values in a list, counted in `ds`. -/
def bestDeltaIn (ds : List Nat) : List Nat → Option Nat
  | [] => none
  | d :: rest =>
    match bestDeltaIn ds rest with
    | none => some d
    | some b => some (betterDelta ds d b)

/-- "the value occurring most often in deltas; among values tied for most often, the least"; none if there is no delta
(45_frame_detector.md R213). -/
def bestDelta (ds : List Nat) : Option Nat := bestDeltaIn ds ds

/-- The `D` of `decide()` (45_frame_detector.md R213). -/
def measuredDelta (samples : List Stamp) : Option Nat :=
  bestDelta (neighbourDeltas (sortAscending (samples.map (·.toNat))))

/-- `abs(D - r) <= 1`. -/
def nearTicks (d r : Nat) : Bool := decide (d ≤ r + 1) && decide (r ≤ d + 1)

/-- The RATE_CODE of `map(D)` (45_frame_detector.md R214); `defaultUsed` where the default duration is taken. -/
def rateCodeOf (kind : Kind) (D : Option Nat) : RateCode :=
  match kind, D with
  | _, none => .defaultUsed
  | .audio, some _ => .audioDelta
  | _, some d =>
    if nearTicks d 3600 then .fps25
    else if nearTicks d 3003 then .fps29_97
    else if nearTicks d 1800 then .fps50
    else if d = 1501 ∨ d = 1502 then .fps59_94
    else .defaultUsed

/-- The FD_DURATION of `map(D)` (45_frame_detector.md R214). A measured duration that does not fit the register's 32 bits
leaves a free value (entry 7). -/
def durationOf (s : State) (D : Option Nat) : Word :=
  match rateCodeOf s.fdCfg.kind D, D with
  | .defaultUsed, _ => s.fdDefdur
  | _, some d => if d < 2 ^ 32 then BitVec.ofNat 32 d else Config.freeDuration s.freeCount
  | _, none => s.fdDefdur

/-- The measured duration does not fit FD_DURATION, so a free value is used up (entry 7). -/
def durationIsFree (s : State) (D : Option Nat) : Bool :=
  match D with
  | none => false
  | some d => rateCodeOf s.fdCfg.kind D != .defaultUsed && decide (2 ^ 32 ≤ d)

/-- `decide()` (45_frame_detector.md R213). -/
def decideRate (s : State) : State :=
  let D := measuredDelta s.fdSamples
  { s with
    fdDuration := durationOf s D
    fdRate := { s.fdRate with rateCode := rateCodeOf s.fdCfg.kind D, synced := true }
    freeCount := if durationIsFree s D then s.freeCount + 1 else s.freeCount }

/-- The clock wrapped between the last sample and `p` (45_frame_detector.md R212). -/
def clockWrapped (samples : List Stamp) (p : Stamp) : Bool :=
  match samples.getLast? with
  | none => false
  | some last => decide (p.toNat < last.toNat) && stampAfter last p

/-- `sample(p)` (45_frame_detector.md R212). -/
def addSample (p : Stamp) (s : State) : State :=
  let s' := { s with fdSamples := (if clockWrapped s.fdSamples p then [] else s.fdSamples) ++ [p] }
  if s'.fdSamples.length = s.params.ptsWindow then decideRate s' else s'

/-- FD_RATE's two flags after a packet's result (45_frame_detector.md R211). -/
def FdRate.noteResult (r : FdRate) (R : FdResult) : FdRate :=
  { r with
    iframeSeen := r.iframeSeen || (R.newFrame && R.indepFrame), fieldCoded := r.fieldCoded || R.fieldPic }

/-- `post(V, f, R)` (45_frame_detector.md R211). -/
def postPacket (V : View) (f : TsFields) (R : FdResult) (s : State) : State :=
  let s := { s with fdRate := s.fdRate.noteResult R }
  let Q := V.sub f.off (188 - f.off)
  if !s.fdRate.synced && f.pusi && s.fdRate.iframeSeen && hasTs Q .pts then addSample (Q.stampAt 9) s else s

/-- FD_PACKET on an accepted packet (45_frame_detector.md R192). -/
def processPacket (V : View) (f : TsFields) (s : State) : State :=
  let c := parsePacket V f s.fdCfg (s.scanState f)
  let R := c.result
  let t := postPacket V f R { s with fdScanner := c.scanner, fdH264 := c.flags, fdLog2mfn := c.log2mfn }
  { t with
    res0 := 188, fdResult := R, res1 := R.word.setWidth 64
    status := { t.status with valid := true, newFrame := R.newFrame, indepFrame := R.indepFrame } }

/-- FD_PACKET on its view (45_frame_detector.md R192). -/
def fdPacket (V : View) (s : State) : State :=
  if V.len < 188 then { s.reportNeedMore true with res0 := 0, res1 := 0 }
  else if V.get 0 ≠ 0x47#8 then { s.reportMalformed true with res0 := BitVec.ofNat 64 (skipCount V), res1 := 0 }
  else if accepts s.fdCfg.pid (tsFields V) then processPacket V (tsFields V) s
  else { s with res0 := 188, res1 := 0 }

/-- FD_PACKET (45_frame_detector.md R192). -/
def fdPacketRule (s : State) : Except ErrCode State := configuredDetector s <| withView s fun V => fdPacket V s

/-- FD_CONFIG.AUDIO. -/
def execFdConfigAudio (s : State) : Result := command (encode .fdConfigAudio) (fdConfigRule .audio) s

/-- FD_CONFIG.MPEG2. -/
def execFdConfigMpeg2 (s : State) : Result := command (encode .fdConfigMpeg2) (fdConfigRule .mpeg2) s

/-- FD_CONFIG.H264. -/
def execFdConfigH264 (s : State) : Result := command (encode .fdConfigH264) (fdConfigRule .h264) s

/-- FD_PACKET. -/
def execFdPacket (s : State) : Result := command (encode .fdPacket) fdPacketRule s

end Sys2Proof.Machine
end

