-- ==== Sys2Proof/Machine/Dispatch.lean ====
section
/-! DEFINITION. One arm per command, each one call of its meaning. -/

namespace Sys2Proof.Machine

/-- The whole effect of a legal command: the cycle's start and the command's rule (40_control.md R100). -/
def exec (i : Instr) (s : State) : Host.Outcome State Fault Refusal :=
  match i with
  | .nop => Sys2Proof.Machine.execNop s
  | .clrStatus => Sys2Proof.Machine.execClrStatus s
  | .softReset => Sys2Proof.Machine.execSoftReset s
  | .brInit => Sys2Proof.Machine.execBrInit s
  | .brInitRaw => Sys2Proof.Machine.execBrInitRaw s
  | .brBit => Sys2Proof.Machine.execBrBit s
  | .brBits => Sys2Proof.Machine.execBrBits s
  | .brUe => Sys2Proof.Machine.execBrUe s
  | .brSe => Sys2Proof.Machine.execBrSe s
  | .brByte => Sys2Proof.Machine.execBrByte s
  | .crcInit => Sys2Proof.Machine.execCrcInit s
  | .crcSeed => Sys2Proof.Machine.execCrcSeed s
  | .crcUpdate => Sys2Proof.Machine.execCrcUpdate s
  | .crcCheck => Sys2Proof.Machine.execCrcCheck s
  | .crcCheckAcc => Sys2Proof.Machine.execCrcCheckAcc s
  | .crcAppend => Sys2Proof.Machine.execCrcAppend s
  | .sectCheck => Sys2Proof.Machine.execSectCheck s
  | .tsHdr => Sys2Proof.Machine.execTsHdr s
  | .tsPcrGet => Sys2Proof.Machine.execTsPcrGet s
  | .tsPcrSet => Sys2Proof.Machine.execTsPcrSet s
  | .pesAnalyze => Sys2Proof.Machine.execPesAnalyze s
  | .pesGetTsPts => Sys2Proof.Machine.execPesGetTsPts s
  | .pesGetTsDts => Sys2Proof.Machine.execPesGetTsDts s
  | .pesSetTsPts => Sys2Proof.Machine.execPesSetTsPts s
  | .pesSetTsDts => Sys2Proof.Machine.execPesSetTsDts s
  | .tsFindTsPts => Sys2Proof.Machine.execTsFindTsPts s
  | .tsFindTsDts => Sys2Proof.Machine.execTsFindTsDts s
  | .tsSetTsPts => Sys2Proof.Machine.execTsSetTsPts s
  | .tsSetTsDts => Sys2Proof.Machine.execTsSetTsDts s
  | .t33Diff => Sys2Proof.Machine.execT33Diff s
  | .t33Add => Sys2Proof.Machine.execT33Add s
  | .fdConfigAudio => Sys2Proof.Machine.execFdConfigAudio s
  | .fdConfigMpeg2 => Sys2Proof.Machine.execFdConfigMpeg2 s
  | .fdConfigH264 => Sys2Proof.Machine.execFdConfigH264 s
  | .fdPacket => Sys2Proof.Machine.execFdPacket s

end Sys2Proof.Machine
end

