-- ==== Sys2Proof/Machine/Registers.lean ====
section
/-! DEFINITION. The register map: offsets, access, what the host reads and what it may write (10_state.md R20 to R46). -/

namespace Sys2Proof.Machine

/-- The registers of 10_state.md R20. -/
inductive Reg where
  | id | paramBufsize | paramPtswin | cmd | status | addr | len | opaLo | opaHi | opbLo | opbHi
  | res0Lo | res0Hi | res1Lo | res1Hi | crc | brBase | brLen | brIdx | brState
  | fdCfg | fdScanner | fdH264 | fdLog2mfn | fdResult | fdRate | fdDuration | fdNpts | fdDefdur
deriving DecidableEq, Repr

/-- The offsets of 10_state.md R20. -/
def Reg.offset : Reg → Nat
  | .id => 0x000
  | .paramBufsize => 0x004
  | .paramPtswin => 0x008
  | .cmd => 0x00C
  | .status => 0x010
  | .addr => 0x014
  | .len => 0x018
  | .opaLo => 0x01C
  | .opaHi => 0x020
  | .opbLo => 0x024
  | .opbHi => 0x028
  | .res0Lo => 0x02C
  | .res0Hi => 0x030
  | .res1Lo => 0x034
  | .res1Hi => 0x038
  | .crc => 0x03C
  | .brBase => 0x040
  | .brLen => 0x044
  | .brIdx => 0x048
  | .brState => 0x04C
  | .fdCfg => 0x050
  | .fdScanner => 0x054
  | .fdH264 => 0x058
  | .fdLog2mfn => 0x05C
  | .fdResult => 0x060
  | .fdRate => 0x064
  | .fdDuration => 0x068
  | .fdNpts => 0x06C
  | .fdDefdur => 0x070

/-- Every register, in the order of 10_state.md R20. -/
def Reg.all : List Reg :=
  [.id, .paramBufsize, .paramPtswin, .cmd, .status, .addr, .len, .opaLo, .opaHi, .opbLo,
    .opbHi, .res0Lo, .res0Hi, .res1Lo, .res1Hi, .crc, .brBase, .brLen, .brIdx, .brState,
    .fdCfg, .fdScanner, .fdH264, .fdLog2mfn, .fdResult, .fdRate, .fdDuration, .fdNpts, .fdDefdur]

/-- The register at an offset, none where 20_memory.md R67 maps nothing. -/
def Reg.ofOffset (a : Nat) : Option Reg := Reg.all.find? fun r => r.offset == a

/-- ID's constant (10_state.md R21). -/
def idValue : Word := 0x56440007

/-- What a host read of a register returns (10_state.md R21 to R41). -/
def State.readReg (s : State) : Reg → Word
  | .id => idValue
  | .paramBufsize => BitVec.ofNat 32 s.params.bufSize
  | .paramPtswin => BitVec.ofNat 32 s.params.ptsWindow
  | .cmd => s.cmd
  | .status => s.status.word
  | .addr => s.addr
  | .len => s.len
  | .opaLo => s.opa.extractLsb' 0 32
  | .opaHi => s.opa.extractLsb' 32 32
  | .opbLo => s.opb.extractLsb' 0 32
  | .opbHi => s.opb.extractLsb' 32 32
  | .res0Lo => s.res0.extractLsb' 0 32
  | .res0Hi => s.res0.extractLsb' 32 32
  | .res1Lo => s.res1.extractLsb' 0 32
  | .res1Hi => s.res1.extractLsb' 32 32
  | .crc => s.crc
  | .brBase => s.brBase
  | .brLen => s.brLen
  | .brIdx => s.brIdx
  | .brState => s.brState.word
  | .fdCfg => s.fdCfg.word
  | .fdScanner => s.fdScanner
  | .fdH264 => s.fdH264.word
  | .fdLog2mfn => s.fdLog2mfn
  | .fdResult => s.fdResult.word
  | .fdRate => s.fdRate.word
  | .fdDuration => s.fdDuration
  | .fdNpts => s.fdNpts
  | .fdDefdur => s.fdDefdur

/-- A host write of a register other than CMD: the RW registers store all 32 bits (10_state.md R27, R28, R41, R44), a write
of a read-only one has no effect (R45). CMD is the bus's business (Machine/Bus.lean). -/
def State.writeReg (s : State) (r : Reg) (v : Word) : State :=
  match r with
  | .addr => { s with addr := v }
  | .len => { s with len := v }
  | .opaLo => { s with opa := s.opa.extractLsb' 32 32 ++ v }
  | .opaHi => { s with opa := v ++ s.opa.extractLsb' 0 32 }
  | .opbLo => { s with opb := s.opb.extractLsb' 32 32 ++ v }
  | .opbHi => { s with opb := v ++ s.opb.extractLsb' 0 32 }
  | .fdDefdur => { s with fdDefdur := v }
  | _ => s

end Sys2Proof.Machine
end

