-- ==== Sys2Proof/Machine/Bus.lean ====
section
/-! DEFINITION. The host bus (20_memory.md R66 to R72): where an access goes, what it reads or writes, the write of CMD that runs
a command (40_control.md R100), and the erroneous access that sets STATUS.BUSERR. -/

namespace Sys2Proof.Machine

/-- What an access of the host address space reaches (20_memory.md R66 to R68). -/
inductive BusTarget where
  /-- A register, by a legal access. -/
  | register (r : Reg)
  /-- Buffer bytes from `a` on, by a legal access. -/
  | buffer (a : Nat)
  /-- An unmapped address, another width, a misaligned access or one past the end of the buffer. -/
  | erroneous
deriving DecidableEq, Repr

/-- 20_memory.md R66 to R68: registers by aligned 4-byte accesses, the buffer by naturally aligned accesses of 1, 2 or 4
bytes that end inside it. -/
def busTarget (bufSize : Nat) (addr : BitVec 17) (width : Nat) : BusTarget :=
  let a := addr.toNat
  if a < 0x10000 then
    if width = 4 ∧ a % 4 = 0 then
      match Reg.ofOffset a with
      | some r => .register r
      | none => .erroneous
    else .erroneous
  else if (width = 1 ∨ width = 2 ∨ width = 4) ∧ a % width = 0 ∧ a - 0x10000 + width ≤ bufSize then .buffer (a - 0x10000)
  else .erroneous

/-- STATUS.BUSERR set (20_memory.md R68; 60_exceptions.md R247). -/
def State.busError (s : State) : State := { s with status := { s.status with busErr := true } }

/-- A host read: the data, and no effect but BUSERR of an erroneous access, which reads 0 (20_memory.md R67 to R71). -/
def State.hostRead (s : State) (addr : BitVec 17) (width : Nat) : State :=
  match busTarget s.params.bufSize addr width with
  | .register r => { s with hostReply := some (s.readReg r) }
  | .buffer a => { s with hostReply := some (BitVec.ofNat 32 (leValue (s.bytes a width))) }
  | .erroneous => { s.busError with hostReply := some 0 }

/-- A write of CMD (40_control.md R100): the command cycle, which an illegal word ends with ILLEGAL (30_encoding.md R82). -/
def runCommand (w : Word) (s : State) : Result :=
  match decode w with
  | .ok i => exec i s
  | .error _ => .next ((s.beginCommand w).raise .illegal)

/-- A host write: CMD runs a command; another register or the buffer takes the value, little-endian; an erroneous access
only sets BUSERR (20_memory.md R67 to R71). -/
def hostWrite (addr : BitVec 17) (width : Nat) (v : Word) (s : State) : Result :=
  match busTarget s.params.bufSize addr width with
  | .register .cmd => runCommand v s
  | .register r => .next (s.writeReg r v)
  | .buffer a => .next (s.setBytes a (leBytes width v.toNat))
  | .erroneous => .next s.busError

/-- One thing the outside world does (entries 3 and 5). -/
def hostOp (op : HostOp) (s : State) : Result :=
  match op with
  | .read addr width => .next (s.hostRead addr width)
  | .write addr width v => hostWrite addr width v s
  | .powerOn => .next s.powerOn

/-- The host address of a register (20_memory.md R66). -/
def Reg.address (r : Reg) : BitVec 17 := BitVec.ofNat 17 r.offset

/-- The host address of buffer byte `a` (20_memory.md R66). DESIGN CHOICE (entry 16), unsafe: where `0x10000 + a` passes
0x1FFFF there is no such address, and the model takes it modulo 2^17. -/
def bufAddress (a : Nat) : BitVec 17 := BitVec.ofNat 17 (0x10000 + a)

end Sys2Proof.Machine
end

