-- ==== Sys2Proof/Machine/Step.lean ====
section
/-! DEFINITION. One step: the next host access, or nothing while the host is idle (00_scope.md R2, 20_memory.md R72). -/

namespace Sys2Proof.Machine

/-- The unit "never runs on its own" (00_scope.md R2): a step takes the host's next access; with none to come the unit
is idle and nothing changes (40_control.md R100, entry 3). -/
def step (s : State) : Host.Outcome State Fault Refusal :=
  match s.host with
  | [] => .next s
  | op :: rest => hostOp op { s with host := rest }

/-- The host's next access is the CMD write of the word whose low `nbits` bits are those of `w` (entries 3 and 13). -/
def State.withFetchWord (s : State) (nbits w : Nat) : State :=
  { s with host := .write Reg.cmd.address 4 (BitVec.ofNat 32 (w % 2 ^ nbits)) :: s.host }

end Sys2Proof.Machine
end

