-- ==== Sys2Proof/Machine/HostProgram.lean ====
section
/-! DEFINITION. Host programs: the lines of 30_encoding.md R88 and their expansions into host bus accesses. -/

namespace Sys2Proof.Machine

/-- The 64-bit operand registers SET64 names. -/
inductive Operand64 where
  | opa | opb
deriving DecidableEq, Repr

/-- A line of a host program (30_encoding.md R88). WRB and RDB take any buffer address; entry 16 is on those beyond the host
address space. -/
inductive HostLine where
  | wr (r : Reg) (imm : Word)
  | rd (r : Reg)
  | wrb (a : Nat) (bs : List Byte)
  | rdb (a n : Nat)
  | view (a l : Word)
  | set64 (x : Operand64) (imm : DWord)
  | cmd (i : Instr)
  | crcv (a l : Word)
  | sect (a l : Word)
  | pkt (a l : Word)
deriving DecidableEq, Repr

/-- `WR reg, imm32`. -/
def writeRegOp (r : Reg) (v : Word) : HostOp := .write r.address 4 v

/-- One 1-byte host write for each byte. -/
def writeByteOps : Nat → List Byte → List HostOp
  | _, [] => []
  | a, b :: bs => .write (bufAddress a) 1 (b.setWidth 32) :: writeByteOps (a + 1) bs

/-- `n` 1-byte host reads. -/
def readByteOps : Nat → Nat → List HostOp
  | _, 0 => []
  | a, n + 1 => .read (bufAddress a) 1 :: readByteOps (a + 1) n

/-- `VIEW a, l`. -/
def viewOps (a l : Word) : List HostOp := [writeRegOp .addr a, writeRegOp .len l]

/-- `CMD MNEMONIC`. -/
def cmdOp (i : Instr) : HostOp := writeRegOp .cmd (encode i)

/-- The expansion of a line (30_encoding.md R88). -/
def HostLine.expand : HostLine → List HostOp
  | .wr r v => [writeRegOp r v]
  | .rd r => [.read r.address 4]
  | .wrb a bs => writeByteOps a bs
  | .rdb a n => readByteOps a n
  | .view a l => viewOps a l
  | .set64 .opa v => [writeRegOp .opaLo (v.extractLsb' 0 32), writeRegOp .opaHi (v.extractLsb' 32 32)]
  | .set64 .opb v => [writeRegOp .opbLo (v.extractLsb' 0 32), writeRegOp .opbHi (v.extractLsb' 32 32)]
  | .cmd i => [cmdOp i]
  | .crcv a l => viewOps a l ++ [cmdOp .crcCheck]
  | .sect a l => viewOps a l ++ [cmdOp .sectCheck]
  | .pkt a l => viewOps a l ++ [cmdOp .fdPacket]

/-- The host accesses of a whole program. -/
def hostProgram (p : List HostLine) : List HostOp := p.flatMap HostLine.expand

end Sys2Proof.Machine
end

