-- ==== Sys2Proof/Safety.lean ====
section
/-! DEFINITION. What holds in every state a unit can be in: the invariant the claims use. -/

namespace Sys2Proof.Machine

/-- The buffer list is in its canonical form and lists only bytes of the buffer (20_memory.md R60, entry 2). -/
def State.memOk (s : State) : Prop :=
  Memory.wf s.mem = true ∧ ∀ c ∈ s.mem, c.1 < s.params.bufSize

/-- The BR cursor (10_state.md R31, R32): BR_IDX "never exceeds BR_LEN", the view lies in the buffer (41_bitreader.md
R110), NBITS and ZEROS keep their ranges, and PASTEND is set only with BR_IDX at BR_LEN (41_bitreader.md R112). -/
def State.cursorOk (s : State) : Prop :=
  s.brIdx.toNat ≤ s.brLen.toNat ∧ s.brBase.toNat + s.brLen.toNat ≤ s.params.bufSize ∧ s.brState.bits.nbits ≤ 8 ∧
    s.brState.bits.zeros ≤ 2 ∧ (s.brState.bits.pastEnd = true → s.brIdx = s.brLen)

/-- The rate inference (10_state.md R38 to R40, R42): at most PTS_WINDOW samples, fewer while scanning, and no duration or
rate decided before SYNCED. -/
def State.rateOk (s : State) : Prop :=
  s.fdSamples.length ≤ s.params.ptsWindow ∧
    (s.fdRate.synced = false →
      s.fdSamples.length < s.params.ptsWindow ∧ s.fdDuration = 0 ∧ s.fdRate.rateCode = .undecided)

/-- The flags (10_state.md R25, R37; 45_frame_detector.md R193): an error has left STICKY_ERR set, an independent frame is
a new frame. -/
def State.flagsOk (s : State) : Prop :=
  (s.status.err ≠ .noError → s.status.stickyErr = true) ∧
    (s.status.indepFrame = true → s.status.newFrame = true) ∧ (s.fdResult.indepFrame = true → s.fdResult.newFrame = true)

/-- The invariant of the unit. -/
structure State.Inv (s : State) : Prop where
  params : s.params.legal = true
  mem    : s.memOk
  cursor : s.cursorOk
  rate   : s.rateOk
  flags  : s.flagsOk

end Sys2Proof.Machine
end

