-- ==== Sys2Proof/Certificates/Slice0/Obligations.lean ====
section
/-! DEFINITION. The statements for the provers. First, under Sys2Proof.Claims, the words they are said in: what a view byte is, what
STATUS is after a command, the bits a cursor has left, the fields of a TS packet and of a PES header as plain arithmetic on
bytes. None of them calls the meaning of a command. -/

namespace Sys2Proof.Claims

open Sys2Proof Sys2Proof.Machine

/-! ## What every command does -/

/-- STATUS with every transient field 0 and the two sticky ones kept (10_state.md R26). -/
def quiet (st : Status) : Status :=
  { valid := false, needMore := false, malformed := false, newFrame := false, indepFrame := false, brOvf := false,
    brEod := false, err := .noError, stickyErr := st.stickyErr, busErr := st.busErr }

/-- A state in which command `i` has run and changed nothing but CMD and STATUS.VALID = `v`. -/
def answered (s : State) (i : Instr) (v : Bool) : State :=
  { s with cmd := encode i, status := { quiet s.status with valid := v } }

/-- The same with STATUS.NEED_MORE = 1. -/
def answeredNeedMore (s : State) (i : Instr) : State :=
  { s with cmd := encode i, status := { quiet s.status with needMore := true } }

/-- The same with STATUS.MALFORMED = 1. -/
def answeredMalformed (s : State) (i : Instr) : State :=
  { s with cmd := encode i, status := { quiet s.status with malformed := true } }

/-- A state in which command word `w` has ended with error `e` (40_control.md R102). -/
def failed (s : State) (w : Word) (e : ErrCode) : State :=
  { s with cmd := w, status := { quiet s.status with err := e, stickyErr := true } }

/-- The range check of 20_memory.md R65 passes. -/
def inRange (s : State) : Prop := s.addr.toNat + s.len.toNat ≤ s.params.bufSize

/-- Byte `i` of the input view as a number (20_memory.md R63). -/
def byteAt (s : State) (i : Nat) : Nat :=
  if i < s.len.toNat then (s.bufByte (s.addr.toNat + i)).toNat else 0

/-- The bytes of the input view in order. -/
def viewBytes (s : State) : List Byte := (List.range s.len.toNat).map fun i => s.bufByte (s.addr.toNat + i)

/-- ALL1_64 (00_scope.md R8). -/
def allOnes : DWord := BitVec.ofNat 64 (2 ^ 64 - 1)

/-! ## Command words -/

/-- The legal words of 30_encoding.md R83, each with the command it names. -/
def legalWordTable : List (Nat × Instr) :=
  [(0x00000000, .nop), (0x00000001, .clrStatus), (0x00000002, .softReset), (0x00000010, .brInit),
    (0x00000110, .brInitRaw), (0x00000011, .brBit), (0x00000012, .brBits), (0x00000013, .brUe),
    (0x00000014, .brSe), (0x00000015, .brByte), (0x00000020, .crcInit), (0x00000021, .crcSeed),
    (0x00000022, .crcUpdate), (0x00000023, .crcCheck), (0x00000123, .crcCheckAcc), (0x00000024, .crcAppend),
    (0x00000025, .sectCheck), (0x00000030, .tsHdr), (0x00000031, .tsPcrGet), (0x00000032, .tsPcrSet),
    (0x00000038, .pesAnalyze), (0x00000039, .pesGetTsPts), (0x00000139, .pesGetTsDts), (0x0000003A, .pesSetTsPts),
    (0x0000013A, .pesSetTsDts), (0x0000003B, .tsFindTsPts), (0x0000013B, .tsFindTsDts), (0x0000003C, .tsSetTsPts),
    (0x0000013C, .tsSetTsDts), (0x00000040, .t33Diff), (0x00000041, .t33Add), (0x00000050, .fdConfigAudio),
    (0x00000150, .fdConfigMpeg2), (0x00000250, .fdConfigH264), (0x00000051, .fdPacket)]

/-- The BR read commands (41_bitreader.md R110). -/
def brReads : List Instr := [.brBit, .brBits, .brUe, .brSe, .brByte]

/-- BR_INIT with its two forms. -/
def brInits : List Instr := [.brInit, .brInitRaw]

/-- FD_CONFIG with its three forms. -/
def fdConfigs : List Instr := [.fdConfigAudio, .fdConfigMpeg2, .fdConfigH264]

/-- The commands that take a view (60_exceptions.md R240, the row RANGE), CRC_APPEND apart. -/
def viewCommands : List Instr :=
  [.brInit, .brInitRaw, .crcUpdate, .crcCheck, .crcCheckAcc, .sectCheck, .tsHdr, .tsPcrGet, .tsPcrSet,
    .pesAnalyze, .pesGetTsPts, .pesGetTsDts, .pesSetTsPts, .pesSetTsDts, .tsFindTsPts, .tsFindTsDts, .tsSetTsPts, .tsSetTsDts, .fdPacket]

/-- The error a command word ends with, none if it ends with none: the causes of 60_exceptions.md R240 in the order of
R241. `d` is the command the word names, none for an illegal word. -/
def errorOf (s : State) (d : Option Instr) : Option ErrCode :=
  match d with
  | none => some .illegal
  | some i =>
    if (i ∈ brReads ∧ s.brState.active = false) ∨ (i = .fdPacket ∧ s.fdCfg.configured = false) then some .notConfigured
    else if (i = .brBits ∧ 32 < s.opa.toNat) ∨ (i ∈ fdConfigs ∧ 0x1FFF < s.opa.toNat) then some .badOperand
    else if i ∈ viewCommands ∧ s.params.bufSize < s.addr.toNat + s.len.toNat then some .range
    else if i = .crcAppend ∧ s.params.bufSize < s.addr.toNat + s.len.toNat + 4 then some .range
    else none

/-- The command a word names. -/
def commandOf (w : Word) : Option Instr :=
  match decode w with
  | .ok i => some i
  | .error _ => none

/-! ## The host bus -/

/-- The registers in the order of 10_state.md R20: register `k` is at offset `4 * k`. -/
def registersInOrder : List Reg :=
  [.id, .paramBufsize, .paramPtswin, .cmd, .status, .addr, .len, .opaLo, .opaHi, .opbLo,
    .opbHi, .res0Lo, .res0Hi, .res1Lo, .res1Hi, .crc, .brBase, .brLen, .brIdx, .brState,
    .fdCfg, .fdScanner, .fdH264, .fdLog2mfn, .fdResult, .fdRate, .fdDuration, .fdNpts, .fdDefdur]

/-- FD_RESULT as a number (10_state.md R37). -/
def resultImage (R : FdResult) : Nat :=
  R.newFrame.toNat + 2 * R.indepFrame.toNat + 4 * R.frameType.toNat + 32 * R.fieldPic.toNat + 64 * R.bottomField.toNat +
    256 * R.startOff.toNat

/-- What a host read of a register returns, as a number, field by field (10_state.md R21 to R41). -/
def registerImage (s : State) : Reg → Nat
  | .id => 0x56440007
  | .paramBufsize => s.params.bufSize % 2 ^ 32
  | .paramPtswin => s.params.ptsWindow % 2 ^ 32
  | .cmd => s.cmd.toNat
  | .status =>
    s.status.valid.toNat + 2 * s.status.needMore.toNat + 4 * s.status.malformed.toNat + 8 * s.status.newFrame.toNat +
      16 * s.status.indepFrame.toNat + 32 * s.status.brOvf.toNat + 64 * s.status.brEod.toNat +
      256 * (match s.status.err with | .noError => 0 | .illegal => 1 | .range => 2 | .notConfigured => 3 | .badOperand => 4) +
      2 ^ 16 * s.status.stickyErr.toNat + 2 ^ 17 * s.status.busErr.toNat
  | .addr => s.addr.toNat
  | .len => s.len.toNat
  | .opaLo => s.opa.toNat % 2 ^ 32
  | .opaHi => s.opa.toNat / 2 ^ 32
  | .opbLo => s.opb.toNat % 2 ^ 32
  | .opbHi => s.opb.toNat / 2 ^ 32
  | .res0Lo => s.res0.toNat % 2 ^ 32
  | .res0Hi => s.res0.toNat / 2 ^ 32
  | .res1Lo => s.res1.toNat % 2 ^ 32
  | .res1Hi => s.res1.toNat / 2 ^ 32
  | .crc => s.crc.toNat
  | .brBase => s.brBase.toNat
  | .brLen => s.brLen.toNat
  | .brIdx => s.brIdx.toNat
  | .brState =>
    s.brState.bits.cur.toNat + 2 ^ 8 * s.brState.bits.nbits + 2 ^ 12 * s.brState.bits.zeros +
      2 ^ 16 * s.brState.bits.raw.toNat + 2 ^ 17 * s.brState.active.toNat + 2 ^ 18 * s.brState.bits.pastEnd.toNat
  | .fdCfg =>
    s.fdCfg.pid.toNat + 2 ^ 16 * (match s.fdCfg.kind with | .audio => 0 | .mpeg2 => 1 | .h264 => 2) +
      2 ^ 31 * s.fdCfg.configured.toNat
  | .fdScanner => s.fdScanner.toNat
  | .fdH264 =>
    s.fdH264.gotAud.toNat + 2 * s.fdH264.gotSps.toNat + 4 * s.fdH264.frameMbsOnly.toNat +
      8 * s.fdH264.sepColourPlane.toNat
  | .fdLog2mfn => s.fdLog2mfn.toNat
  | .fdResult => resultImage s.fdResult
  | .fdRate =>
    s.fdRate.synced.toNat + 2 * s.fdRate.fieldCoded.toNat +
      4 * (match s.fdRate.rateCode with
        | .undecided => 0 | .fps25 => 1 | .fps29_97 => 2 | .fps50 => 3 | .fps59_94 => 4 | .defaultUsed => 5
        | .audioDelta => 6) +
      32 * s.fdRate.iframeSeen.toNat
  | .fdDuration => s.fdDuration.toNat
  | .fdNpts => s.fdSamples.length % 2 ^ 32
  | .fdDefdur => s.fdDefdur.toNat

/-- The reset value of a register (10_state.md R20's last column). -/
def resetImage (p : Params) : Reg → Nat
  | .id => 0x56440007
  | .paramBufsize => p.bufSize % 2 ^ 32
  | .paramPtswin => p.ptsWindow % 2 ^ 32
  | .crc | .fdScanner => 0xFFFFFFFF
  | .fdDefdur => 3600
  | _ => 0

/-- The registers a host write stores into, CMD apart (10_state.md R20, R27, R28, R41). -/
def writableRegisters : List Reg := [.addr, .len, .opaLo, .opaHi, .opbLo, .opbHi, .fdDefdur]

/-- The legal accesses of 20_memory.md R66 to R68. -/
def legalAccess (bufSize : Nat) (addr : BitVec 17) (width : Nat) : Prop :=
  (width = 4 ∧ addr.toNat % 4 = 0 ∧ addr.toNat ≤ 0x070) ∨
    (0x10000 ≤ addr.toNat ∧ (width = 1 ∨ width = 2 ∨ width = 4) ∧ addr.toNat % width = 0 ∧
      addr.toNat + width ≤ 0x10000 + bufSize)

/-- `n` steps. -/
def run : Nat → State → Result
  | 0, s => .next s
  | n + 1, s =>
    match step s with
    | .next t => run n t
    | r => r

/-! ## The bits a cursor has left (41_bitreader.md R112 to R118) -/

/-- The bits of a byte, bit 7 first. -/
def byteBits (b : Byte) : List Bool := (List.range 8).map fun k => b.getLsbD (7 - k)

/-- Bytes with the emulation-prevention bytes removed, `z` 0x00 bytes having gone before (41_bitreader.md R113). -/
def withoutEscapes : Nat → List Byte → List Byte
  | _, [] => []
  | z, [b] => if 2 ≤ z ∧ b = 3#8 then [] else [b]
  | z, b :: c :: bs =>
    if 2 ≤ z ∧ b = 3#8 then c :: withoutEscapes (if c = 0#8 then 1 else 0) bs
    else b :: withoutEscapes (if b = 0#8 then min (z + 1) 2 else 0) (c :: bs)

/-- The bytes a cursor will deliver of the bytes `rest` it has not fetched. -/
def delivered (c : BitCursor) (rest : List Byte) : List Byte := if c.raw then rest else withoutEscapes c.zeros rest

/-- The bits a cursor will deliver: the unread bits of CUR, then those of the bytes to come. -/
def bitsLeft (c : BitCursor) (rest : List Byte) : List Bool :=
  ((List.range c.nbits).map fun k => c.cur.getLsbD (c.nbits - 1 - k)) ++ (delivered c rest).flatMap byteBits

/-- The bytes of the BR view at and beyond BR_IDX. -/
def brRest (s : State) : List Byte :=
  (List.range (s.brLen.toNat - s.brIdx.toNat)).map fun i => s.bufByte (s.brBase.toNat + s.brIdx.toNat + i)

/-- The bits the BR cursor has left. -/
def brBitsLeft (s : State) : List Bool := bitsLeft s.brState.bits (brRest s)

/-- The first `n` of a list of bits, zero-filled. -/
def zeroFilled (l : List Bool) (n : Nat) : List Bool := (List.range n).map fun i => l.getD i false

/-- The number bits spell, the first most significant. -/
def number (l : List Bool) : Nat := l.foldl (fun v b => 2 * v + b.toNat) 0

/-- The BR cursor is past the end once `used` more bits are read (41_bitreader.md R112). -/
def brPastEnd (s : State) (used : Nat) : Bool := s.brState.bits.pastEnd || decide ((brBitsLeft s).length < used)

/-- `t` is `s` after BR read command `i` that took `used` bits and gave `v`, with BR_OVF = `ovf`: RES0, STATUS, the cursor and
CMD, and nothing else (41_bitreader.md R110, R114 to R118). Past the end the bits left are zeros. -/
def brAnswer (s t : State) (i : Instr) (used : Nat) (v : DWord) (ovf : Bool) : Prop :=
  t = { s with
    cmd := encode i, res0 := v, brIdx := t.brIdx, brState := t.brState
    status := { quiet s.status with
      valid := !brPastEnd s used && !ovf, brOvf := ovf, brEod := brPastEnd s used } } ∧
    (used ≤ (brBitsLeft s).length → brBitsLeft t = (brBitsLeft s).drop used) ∧
    (∀ n, zeroFilled (brBitsLeft t) n = zeroFilled ((brBitsLeft s).drop used) n) ∧
    t.brState.bits.pastEnd = brPastEnd s used ∧ t.brState.bits.raw = s.brState.bits.raw ∧ t.brState.active = true

/-- The ue(v) code at the head of a list of bits continued with zeros: the number of leading zero bits (32 if the first 32
bits are 0), the bits used, the value, and whether it overflows (41_bitreader.md R116). -/
def ueOf (l : List Bool) : Nat × Nat × Nat × Bool :=
  let z := ((zeroFilled l 32).takeWhile fun b => !b).length
  if z = 32 then (32, 32, 0xFFFFFFFF, true)
  else (z, 2 * z + 1, 2 ^ z - 1 + number (zeroFilled (l.drop (z + 1)) z), false)

/-- The next byte and what is fetched to get it (41_bitreader.md R112, R113): the byte, how far BR_IDX moves, ZEROS. -/
def fetched (raw : Bool) (z : Nat) (rest : List Byte) : Byte × Nat × Nat :=
  match raw, rest with
  | true, [] => (0#8, 0, 0)
  | true, b :: _ => (b, 1, 0)
  | false, [] => (0#8, 0, min (z + 1) 2)
  | false, b :: bs =>
    if 2 ≤ z ∧ b = 3#8 then
      match bs with
      | [] => (0#8, 1, 1)
      | c :: _ => (c, 2, if c = 0#8 then 1 else 0)
    else (b, 1, if b = 0#8 then min (z + 1) 2 else 0)

/-- The values of `n` BR_BYTE commands in a row. -/
def brByteRun : Nat → State → List Nat
  | 0, _ => []
  | n + 1, s =>
    match exec .brByte s with
    | .next t => t.res0.toNat :: brByteRun n t
    | _ => []

/-! ## CRC (42_crc.md R130) -/

/-- One round of 42_crc.md R130's inner loop, on numbers. -/
def crcRound (c : Nat) : Nat := if 2 ^ 31 ≤ c then (2 * c % 2 ^ 32) ^^^ 0x04C11DB7 else 2 * c

/-- The four bytes of a CRC, most significant first. -/
def crcTail (c : Word) : List Byte := (List.range 4).map fun i => BitVec.ofNat 8 (c.toNat / 256 ^ (3 - i))

/-- The CRC of the input view with seed 0xFFFFFFFF. -/
def viewCrc (s : State) : Word := crc32Update 0xFFFFFFFF#32 (viewBytes s)

/-- section_length (42_crc.md R136). -/
def sectLen (s : State) : Nat := byteAt s 1 % 16 * 256 + byteAt s 2

/-- `info` (42_crc.md R136). -/
def sectInfo (s : State) : Nat := sectLen s * 2 ^ 40 + byteAt s 0 * 2 ^ 32

/-! ## TS packets and PES headers (43_ts_pes.md R150, R154 to R162) -/

/-- The PID of the packet at view offset `b`. -/
def pidAt (s : State) (b : Nat) : Nat := byteAt s (b + 1) % 32 * 256 + byteAt s (b + 2)

/-- payload_unit_start_indicator of the packet at view offset `b`. -/
def pusiAt (s : State) (b : Nat) : Bool := byteAt s (b + 1) / 64 % 2 = 1

/-- An adaptation field is present. -/
def adaptAt (s : State) (b : Nat) : Bool := byteAt s (b + 3) / 32 % 2 = 1

/-- A payload is present. -/
def payloadAt (s : State) (b : Nat) : Bool := byteAt s (b + 3) / 16 % 2 = 1

/-- The payload offset within the packet at view offset `b`. -/
def offAt (s : State) (b : Nat) : Nat := if adaptAt s b then min (5 + byteAt s (b + 4)) 188 else 4

/-- `has_pcr` of the packet at the start of the view. -/
def pcrFlag (s : State) : Bool := adaptAt s 0 && decide (7 ≤ byteAt s 4) && decide (byteAt s 5 / 16 % 2 = 1)

/-- The PCR base and extension in the view (43_ts_pes.md R152). -/
def pcrFields (s : State) : Nat × Nat :=
  (byteAt s 6 * 2 ^ 25 + byteAt s 7 * 2 ^ 17 + byteAt s 8 * 2 ^ 9 + byteAt s 9 * 2 + byteAt s 10 / 128,
    byteAt s 10 % 2 * 256 + byteAt s 11)

/-- Byte `j` of the six PCR bytes of `base` and `ext` (43_ts_pes.md R153). -/
def pcrByte (base ext j : Nat) : Nat :=
  match j with
  | 0 => base / 2 ^ 25 % 256
  | 1 => base / 2 ^ 17 % 256
  | 2 => base / 2 ^ 9 % 256
  | 3 => base / 2 % 256
  | 4 => base % 2 * 128 + 126 + ext / 256 % 2
  | _ => ext % 256

/-- `pos(SEL)`. -/
def stampPos : TsSel → Nat
  | .pts => 9
  | .dts => 14

/-- A PES header of `n` bytes at view offset `b` has the timestamp (43_ts_pes.md R154). -/
def hasStamp (s : State) (sel : TsSel) (b n : Nat) : Prop :=
  match sel with
  | .pts => byteAt s (b + 7) / 128 % 2 = 1 ∧ 5 ≤ byteAt s (b + 8) ∧ 14 ≤ n
  | .dts => byteAt s (b + 7) / 64 % 2 = 1 ∧ 10 ≤ byteAt s (b + 8) ∧ 19 ≤ n

/-- The timestamp in the five view bytes from `p` on (43_ts_pes.md R160). -/
def stampAt (s : State) (p : Nat) : Nat :=
  byteAt s p / 2 % 8 * 2 ^ 30 + byteAt s (p + 1) * 2 ^ 22 + byteAt s (p + 2) / 2 * 2 ^ 15 + byteAt s (p + 3) * 2 ^ 7 +
    byteAt s (p + 4) / 2

/-- Byte `j` of the five bytes of timestamp `v` over the first byte `old` (43_ts_pes.md R161). -/
def stampByte (v old j : Nat) : Nat :=
  match j with
  | 0 => old / 16 * 16 + v / 2 ^ 30 % 8 * 2 + old % 2
  | 1 => v / 2 ^ 22 % 256
  | 2 => v / 2 ^ 15 % 128 * 2 + 1
  | 3 => v / 2 ^ 7 % 256
  | _ => v % 128 * 2 + 1

/-- `t`'s buffer is `s`'s with the timestamp OPA mod 2^33 written in the five view bytes from `p` on. -/
def stampWritten (s t : State) (p : Nat) : Prop :=
  ∀ a, t.bufByte a =
    if s.addr.toNat + p ≤ a ∧ a < s.addr.toNat + p + 5 then
      BitVec.ofNat 8 (stampByte (s.opa.toNat % 2 ^ 33) (byteAt s p) (a - (s.addr.toNat + p)))
    else s.bufByte a

/-- PES_GET_TS with a selector. -/
def pesGet : TsSel → Instr
  | .pts => .pesGetTsPts
  | .dts => .pesGetTsDts

/-- PES_SET_TS with a selector. -/
def pesSet : TsSel → Instr
  | .pts => .pesSetTsPts
  | .dts => .pesSetTsDts

/-- TS_FIND_TS with a selector. -/
def tsFind : TsSel → Instr
  | .pts => .tsFindTsPts
  | .dts => .tsFindTsDts

/-- TS_SET_TS with a selector. -/
def tsSet : TsSel → Instr
  | .pts => .tsSetTsPts
  | .dts => .tsSetTsDts

/-- Packet `k` of the view starts a PES unit that carries the timestamp, clipped to the view (43_ts_pes.md R162). -/
def carrier (s : State) (sel : TsSel) (k : Nat) : Prop :=
  k * 188 < s.len.toNat ∧ pusiAt s (k * 188) = true ∧ payloadAt s (k * 188) = true ∧ offAt s (k * 188) < 188 ∧
    hasStamp s sel (k * 188 + offAt s (k * 188)) (min 188 (s.len.toNat - k * 188) - offAt s (k * 188))

/-- Packet `k` is the first such packet. -/
def firstCarrier (s : State) (sel : TsSel) (k : Nat) : Prop := carrier s sel k ∧ ∀ j < k, ¬carrier s sel j

/-- `analyze(V, n)` of 43_ts_pes.md R155 on bytes `d`: kind, offset, continuation flag. The stuffing bytes are counted, not
stepped over. -/
def analysis (d : Nat → Nat) (n : Nat) : Nat × Nat × Bool :=
  if n < 7 then (0, 0, false)
  else if d 6 / 64 = 2 then
    if n < 9 ∨ n < 9 + d 8 then (0, 0, false)
    else (3, 9 + d 8, decide (d 6 = 0x80 ∧ d 7 = 0 ∧ d 8 = 0))
  else
    let o1 := 6 + ((List.range 16).takeWhile fun j => d (6 + j) == 0xFF).length
    let o2 := if d o1 / 64 = 1 then o1 + 2 else o1
    if n ≤ o1 ∨ n ≤ o2 then (0, 0, false)
    else if d o2 / 16 = 2 then (if n < o2 + 5 then (0, 0, false) else (2, o2 + 5, false))
    else if d o2 / 16 = 3 then (if n < o2 + 10 then (0, 0, false) else (2, o2 + 10, false))
    else if d o2 = 0x0F then (2, o2 + 1, true)
    else (1, 0, false)

/-! ## The frame detector (45_frame_detector.md) -/

/-- FD_PACKET finds a configured detector and a view of at least one packet that fits the buffer. -/
def packetReady (s : State) : Prop := s.fdCfg.configured = true ∧ inRange s ∧ 188 ≤ s.len.toNat

/-- The packet has a sync byte and `accept(f)` holds (45_frame_detector.md R195). -/
def accepted (s : State) : Prop :=
  byteAt s 0 = 0x47 ∧ pidAt s 0 = s.fdCfg.pid.toNat ∧ payloadAt s 0 = true ∧ byteAt s 3 / 64 = 0

/-- A byte of the current packet that may be a sync byte (45_frame_detector.md R194). -/
def likelySync (s : State) (i : Nat) : Prop :=
  byteAt s i = 0x47 ∧ (s.len.toNat - i ≤ 188 ∨ byteAt s (i + 188) = 0x47)

/-- Byte `i` of the payload of the current packet. -/
def payloadByte (s : State) (i : Nat) : Nat := if i < 188 - offAt s 0 then byteAt s (offAt s 0 + i) else 0

/-- Where the scan of the current packet starts (45_frame_detector.md R198). -/
def startAt (s : State) : Nat :=
  let a := analysis (payloadByte s) (188 - offAt s 0)
  if pusiAt s 0 = true ∧ (a.1 = 2 ∨ a.1 = 3) then offAt s 0 + a.2.1 else offAt s 0

/-- The scanner before the first byte of the packet (45_frame_detector.md R197). -/
def scannerBefore (s : State) : Nat := if pusiAt s 0 then 0xFFFFFFFF else s.fdScanner.toNat

/-- The byte scanned `j` bytes before offset `pos`: of this packet from its scan start on, else of the scanner before. -/
def scanned (s : State) (pos j : Nat) : Nat :=
  if startAt s + j ≤ pos then byteAt s (pos - j) else scannerBefore s / 256 ^ (j - (pos + 1 - startAt s)) % 256

/-- FD_SCANNER once offset `pos` is scanned: the last four bytes (45_frame_detector.md R197). -/
def scannerAt (s : State) (pos : Nat) : Nat :=
  scanned s pos 3 * 2 ^ 24 + scanned s pos 2 * 2 ^ 16 + scanned s pos 1 * 2 ^ 8 + scanned s pos 0

/-- FD_SCANNER once the whole packet is scanned. -/
def scannerEnd (s : State) : Nat := if startAt s < 188 then scannerAt s 187 else scannerBefore s

/-- `pos` is an offset the scan covers. -/
def scans (s : State) (pos : Nat) : Prop := startAt s ≤ pos ∧ pos < 188

/-- Offset `pos` ends a NAL header: `00 00 01` and one byte more (45_frame_detector.md R202). -/
def nalAt (s : State) (pos : Nat) : Prop := scans s pos ∧ scannerAt s pos / 256 = 1

/-- nal_unit_type of the NAL header that ends at `pos`. -/
def nalType (s : State) (pos : Nat) : Nat := byteAt s pos % 32

/-- Packet `k` ends the lookahead list (45_frame_detector.md R199). -/
def endsLookahead (s : State) (k : Nat) : Prop :=
  s.len.toNat < (k + 1) * 188 ∨ byteAt s (k * 188) ≠ 0x47 ∨
    (pidAt s (k * 188) = s.fdCfg.pid.toNat ∧ (pusiAt s (k * 188) = true ∨ byteAt s (k * 188 + 3) / 64 ≠ 0))

/-- What packet `k` gives to the lookahead list. -/
def lookaheadPart (s : State) (k : Nat) : List Byte :=
  if pidAt s (k * 188) = s.fdCfg.pid.toNat ∧ payloadAt s (k * 188) = true then
    (List.range (188 - offAt s (k * 188))).map fun i =>
      BitVec.ofNat 8 (byteAt s (k * 188 + offAt s (k * 188) + i))
  else []

/-- The bytes of the packet after offset `pos`. -/
def packetAfter (s : State) (pos : Nat) : List Byte :=
  (List.range (187 - pos)).map fun i => BitVec.ofNat 8 (byteAt s (pos + 1 + i))

/-- The bytes a header reader made at `pos` reads: the rest of the packet, then the lookahead list. -/
def headerBytes (s : State) (pos : Nat) : List Byte :=
  packetAfter s pos ++ lookahead s.inputView s.fdCfg.pid

/-- The H.264 header bits after `pos`, with the emulation-prevention bytes removed. -/
def headerBits (s : State) (pos : Nat) : List Bool := (withoutEscapes 0 (headerBytes s pos)).flatMap byteBits

/-- A list of bits continued with zeros begins with `p`. -/
def beginsWith (l p : List Bool) : Prop := zeroFilled l p.length = p

/-- The `n` low bits of `v`, most significant first. -/
def bitsOf (n v : Nat) : List Bool := (List.range n).map fun k => v.testBit (n - 1 - k)

/-- The ue(v) code of `v` (41_bitreader.md R116). -/
def ueBits (v : Nat) : List Bool := List.replicate (Nat.log2 (v + 1)) false ++ bitsOf (Nat.log2 (v + 1) + 1) (v + 1)

/-- The se(v) code of `v` (41_bitreader.md R117). -/
def seBits (v : Int) : List Bool := ueBits (if 0 < v then 2 * v.toNat - 1 else 2 * (-v).toNat)

/-- A value ue(v) can code. -/
def ueRange (v : Nat) : Prop := v ≤ 2 ^ 32 - 2

/-- A value se(v) can code. -/
def seRange (v : Int) : Prop := -(2 ^ 31 - 1) ≤ v ∧ v ≤ 2 ^ 31 - 1

/-- A slice header as far as the field-parity bit (45_frame_detector.md R208). -/
structure SliceSyntax where
  firstMb     : Nat
  sliceType   : Nat
  ppsId       : Nat
  colourPlane : BitVec 2
  frameNum    : List Bool
  fieldPic    : Bool
  bottomField : Bool
deriving DecidableEq, Repr

/-- The bits of a slice header under the flags of the last SPS. -/
def SliceSyntax.bits (x : SliceSyntax) (h : FdH264) : List Bool :=
  List.flatten
    [ueBits x.firstMb, ueBits x.sliceType, ueBits x.ppsId,
      if h.sepColourPlane then bitsOf 2 x.colourPlane.toNat else [], x.frameNum,
      if h.frameMbsOnly then [] else x.fieldPic :: (if x.fieldPic then [x.bottomField] else [])]

/-- The values fit their codes, and an absent field is false. -/
def SliceSyntax.ok (x : SliceSyntax) (h : FdH264) (log2mfn : Word) : Prop :=
  ueRange x.firstMb ∧ ueRange x.sliceType ∧ ueRange x.ppsId ∧ x.frameNum.length = log2mfn.toNat ∧
    (h.frameMbsOnly = true → x.fieldPic = false) ∧ (x.fieldPic = false → x.bottomField = false)

/-- The deltas coded for a scaling list of `n` more entries (45_frame_detector.md R207). -/
def scalingCoded : Nat → Int → Int → List Int → Prop
  | 0, _, _, ds => ds = []
  | n + 1, last, nxt, ds =>
    if nxt = 0 then ds = []
    else
      match ds with
      | [] => False
      | d :: ds =>
        let nxt' := (last + d + 256) % 256
        seRange d ∧ scalingCoded n (if nxt' = 0 then last else nxt') nxt' ds

/-- The chroma and scaling-list fields of a high profile (45_frame_detector.md R206). -/
structure ChromaSyntax where
  chromaFormat : Nat
  sepColour    : Bool
  lumaDepth    : Nat
  chromaDepth  : Nat
  bypass       : Bool
  /-- The scaling lists, none if there is no scaling matrix; each list's coded deltas, none if the list is not present. -/
  scaling      : Option (List (Option (List Int)))
deriving DecidableEq, Repr

/-- pic_order_cnt_type and its fields (45_frame_detector.md R206). -/
inductive PocSyntax where
  | zero (log2lsb : Nat)
  | one (alwaysZero : Bool) (nonRef topToBottom : Int) (refFrames : List Int)
  | other (pocType : Nat)
deriving DecidableEq, Repr

/-- An SPS as far as frame_mbs_only_flag (45_frame_detector.md R206). -/
structure SpsSyntax where
  profile      : Byte
  constraints  : Byte
  level        : Byte
  spsId        : Nat
  chroma       : Option ChromaSyntax
  log2mfnMinus4 : Nat
  poc          : PocSyntax
  refFrames    : Nat
  gaps         : Bool
  width        : Nat
  height       : Nat
  frameMbsOnly : Bool
deriving DecidableEq, Repr

/-- The bits of a scaling matrix, or of its absence. -/
def scalingBits : Option (List (Option (List Int))) → List Bool
  | none => [false]
  | some lists =>
    true :: lists.flatMap fun l =>
      match l with
      | none => [false]
      | some ds => true :: ds.flatMap seBits

/-- The bits of the chroma and scaling-list fields. -/
def ChromaSyntax.bits (c : ChromaSyntax) : List Bool :=
  List.flatten
    [ueBits c.chromaFormat, if c.chromaFormat = 3 then [c.sepColour] else [], ueBits c.lumaDepth, ueBits c.chromaDepth,
      [c.bypass], scalingBits c.scaling]

/-- The values fit their codes, and there are as many scaling lists as the chroma format asks for, each coded in full. -/
def ChromaSyntax.ok (c : ChromaSyntax) : Prop :=
  ueRange c.chromaFormat ∧ (c.chromaFormat ≠ 3 → c.sepColour = false) ∧ ueRange c.lumaDepth ∧ ueRange c.chromaDepth ∧
    ∀ lists, c.scaling = some lists →
      lists.length = (if c.chromaFormat = 3 then 12 else 8) ∧
        ∀ i ds, lists[i]? = some (some ds) → scalingCoded (if i < 6 then 16 else 64) 8 8 ds

/-- The bits of the picture order count fields. -/
def PocSyntax.bits : PocSyntax → List Bool
  | .zero l => ueBits 0 ++ ueBits l
  | .one a x y l => List.flatten [ueBits 1, [a], seBits x, seBits y, ueBits l.length, l.flatMap seBits]
  | .other t => ueBits t

/-- The values fit their codes. -/
def PocSyntax.ok : PocSyntax → Prop
  | .zero l => ueRange l
  | .one _ x y l => seRange x ∧ seRange y ∧ ueRange l.length ∧ ∀ d ∈ l, seRange d
  | .other t => 2 ≤ t ∧ ueRange t

/-- The profiles that have chroma fields (45_frame_detector.md R206). -/
def chromaProfiles : List Nat := [100, 110, 122, 244, 44, 83, 86, 118, 128]

/-- The bits of the chroma fields, none where there are none. -/
def SpsSyntax.chromaBits (x : SpsSyntax) : List Bool :=
  match x.chroma with
  | none => []
  | some c => c.bits

/-- The bits of an SPS. -/
def SpsSyntax.bits (x : SpsSyntax) : List Bool :=
  List.flatten
    [byteBits x.profile, byteBits x.constraints, byteBits x.level, ueBits x.spsId, x.chromaBits, ueBits x.log2mfnMinus4,
      x.poc.bits, ueBits x.refFrames, [x.gaps], ueBits x.width, ueBits x.height, [x.frameMbsOnly]]

/-- The values fit their codes, and the chroma fields are there just when the profile has them. -/
def SpsSyntax.ok (x : SpsSyntax) : Prop :=
  ueRange x.spsId ∧ (x.chroma.isSome = true ↔ x.profile.toNat ∈ chromaProfiles) ∧ (∀ c, x.chroma = some c → c.ok) ∧
    ueRange x.log2mfnMinus4 ∧ x.poc.ok ∧ ueRange x.refFrames ∧ ueRange x.width ∧ ueRange x.height

/-- separate_colour_plane_flag, 0 when absent. -/
def SpsSyntax.sepColour (x : SpsSyntax) : Bool :=
  match x.chroma with
  | none => false
  | some c => c.sepColour

/-- GOT_AUD when offset `pos` is scanned, no slice having been classified (45_frame_detector.md R205). -/
def audBefore (s : State) (pos : Nat) : Prop :=
  s.fdH264.gotAud = true ∨ ∃ q < pos, nalAt s q ∧ nalType s q = 9

/-- The NAL unit at `pos` is the first of the packet that the H.264 parser reads a header of: an SPS, or a slice after an AUD
and an SPS (45_frame_detector.md R202). -/
def firstRead (s : State) (pos : Nat) : Prop :=
  nalAt s pos ∧
    ∀ q < pos, nalAt s q →
      nalType s q ≠ 7 ∧ ((nalType s q = 1 ∨ nalType s q = 5) → ¬(audBefore s q ∧ s.fdH264.gotSps = true))

/-- The result record of a packet that reports no frame (45_frame_detector.md R193). -/
def noResult : FdResult :=
  { newFrame := false, indepFrame := false, frameType := 0, fieldPic := false, bottomField := false, startOff := 0 }

/-- The header reader's SPS at the NAL header that ends at `pos`, and where the reader then stands. -/
def spsReadAt (s : State) (pos : Nat) : SpsFields × Reader HeaderSource :=
  readSps (headerNext s.inputView) (headerReader pos (lookahead s.inputView s.fdCfg.pid) false)

/-- Where the H.264 scan of a packet stands: the next offset, FD_SCANNER, FD_H264 and FD_LOG2MFN. -/
structure H264Point where
  pos     : Nat
  scanner : Nat
  flags   : FdH264
  log2mfn : Word
deriving DecidableEq, Repr

/-- FD_SCANNER once the byte at the point is scanned (45_frame_detector.md R197). -/
def H264Point.next (s : State) (a : H264Point) : Nat := a.scanner % 2 ^ 24 * 256 + byteAt s a.pos

/-- The byte at the point is a NAL header byte of the packet: `00 00 01` came before it (45_frame_detector.md R202). -/
def H264Point.nal (s : State) (a : H264Point) : Prop := a.pos < 188 ∧ a.next s / 256 = 1

/-- That NAL unit is a slice the parser classifies (45_frame_detector.md R202). -/
def H264Point.classifies (s : State) (a : H264Point) : Prop :=
  (nalType s a.pos = 1 ∨ nalType s a.pos = 5) ∧ a.flags.gotAud = true ∧ a.flags.gotSps = true

/-- The points the H.264 scan of the packet comes to (45_frame_detector.md R202, R205, R206): from the scan start, byte by byte
over what it passes over, over a delimiter, and past an SPS that ends inside the packet, to where its reader stands. -/
inductive H264Reaches (s : State) : H264Point → Prop where
  | start : H264Reaches s { pos := startAt s, scanner := scannerBefore s, flags := s.fdH264, log2mfn := s.fdLog2mfn }
  | passesOver {a : H264Point} : H264Reaches s a → a.pos < 188 →
      (a.nal s → nalType s a.pos ≠ 7 ∧ nalType s a.pos ≠ 9 ∧ ¬a.classifies s) →
      H264Reaches s { a with pos := a.pos + 1, scanner := a.next s }
  | delimiter {a : H264Point} : H264Reaches s a → a.nal s → nalType s a.pos = 9 →
      H264Reaches s { a with pos := a.pos + 1, scanner := a.next s, flags := { a.flags with gotAud := true } }
  | spsInside {a : H264Point} {p : SpsFields} {H : Reader HeaderSource} : H264Reaches s a → a.nal s →
      nalType s a.pos = 7 → spsReadAt s a.pos = (p, H) → H.src.left = false →
      H264Reaches s
        { pos := H.src.pos, scanner := a.next s, log2mfn := p.log2mfn
          flags :=
            { a.flags with gotSps := true, frameMbsOnly := p.frameMbsOnly, sepColourPlane := p.sepColourPlane } }

/-- slice_type, field_pic_flag and bottom_field_flag of a slice header whose bits are `l` continued with zeros
(45_frame_detector.md R208, R209): three ue codes, colour_plane_id, frame_num and the field bits, each dropped in turn. -/
def sliceOf (h : FdH264) (log2mfn : Word) (l : List Bool) : Nat × Bool × Bool :=
  let l1 := l.drop (ueOf l).2.1
  let l2 := l1.drop (ueOf l1).2.1
  let l3 := l2.drop (ueOf l2).2.1
  let l4 := l3.drop ((if h.sepColourPlane then 2 else 0) + log2mfn.toNat)
  let fieldPic := !h.frameMbsOnly && l4.headD false
  ((ueOf l1).2.2.1, fieldPic, fieldPic && (l4.drop 1).headD false)

/-- The bytes fetched to deliver the next `k` bytes of `rest`, `z` 0x00 bytes having gone before (41_bitreader.md R113). -/
def fetchedFor : Nat → Nat → List Byte → Nat
  | 0, _, _ => 0
  | k + 1, z, rest =>
    let f := fetched false z rest
    f.2.1 + fetchedFor k f.2.2 (rest.drop f.2.1)

/-- `H.skip(n)` to the letter (45_frame_detector.md R208). -/
def skipAllBits {σ : Type} (next : Source σ) : Nat → Read σ Unit
  | 0 => return ()
  | n + 1 => do
    let _ ← getBit next
    skipAllBits next n

/-- `repeat n times: H.se()` to the letter (45_frame_detector.md R206). -/
def skipAllSes {σ : Type} (next : Source σ) : Nat → Read σ Unit
  | 0 => return ()
  | n + 1 => do
    let _ ← readSe next
    skipAllSes next n

/-- `sps(H)` with every read made (45_frame_detector.md R206). -/
def readWholeSps {σ : Type} (next : Source σ) : Read σ SpsFields := do
  let profile ← readByte next
  let _ ← readByte next
  let _ ← readByte next
  let _ ← readUe next
  let sep ← if chromaProfiles.contains profile.toNat then readChroma next else pure false
  let (m, _) ← readUe next
  let (pocType, _) ← readUe next
  if pocType = 0 then
    let _ ← readUe next
  else if pocType = 1 then
    let _ ← getBit next
    let _ ← readSe next
    let _ ← readSe next
    let (n, _) ← readUe next
    skipAllSes next n
  let _ ← readUe next
  let _ ← getBit next
  let _ ← readUe next
  let _ ← readUe next
  let mbs ← getBit next
  return { sepColourPlane := sep, log2mfn := BitVec.ofNat 32 (min (m + 4) 0xFFFFFFFF), frameMbsOnly := mbs }

/-- `slice(H, R, here)` with every read made (45_frame_detector.md R208). -/
def readWholeSlice {σ : Type} (next : Source σ) (flags : FdH264) (log2mfn : Word) : Read σ SliceFields := do
  let _ ← readUe next
  let (sliceType, _) ← readUe next
  let _ ← readUe next
  if flags.sepColourPlane then
    let _ ← getBits next 2
  skipAllBits next log2mfn.toNat
  let fieldPic ← if flags.frameMbsOnly then pure false else getBit next
  let bottom ← if fieldPic then getBit next else pure false
  return { sliceType := sliceType, fieldPic := fieldPic, bottom := bottom }

/-- FD_PACKET samples the packet's PTS, `t` being the state after it (45_frame_detector.md R211). -/
def sampling (s t : State) : Prop :=
  s.fdRate.synced = false ∧ pusiAt s 0 = true ∧ t.fdRate.iframeSeen = true ∧
    hasStamp s .pts (offAt s 0) (188 - offAt s 0)

/-- `p` is less than `last` yet after it on the circle: the clock wrapped (45_frame_detector.md R212). -/
def wrapped (last p : Nat) : Prop := p < last ∧ p + 2 ^ 33 - last < 2 ^ 32

/-- The differences of neighbours that differ (45_frame_detector.md R213). -/
def deltasOf (l : List Nat) : List Nat := ((l.zip l.tail).filter fun x => x.1 != x.2).map fun x => x.2 - x.1

/-- `d` occurs in `l` most often; among those that do, it is the least (45_frame_detector.md R213). -/
def isMode (l : List Nat) (d : Nat) : Prop :=
  d ∈ l ∧ ∀ e ∈ l, l.count e < l.count d ∨ (l.count e = l.count d ∧ d ≤ e)

/-- RATE_CODE and FD_DURATION of a delta, by 45_frame_detector.md R214's rows. -/
def rateOf (kind : Kind) (defdur d : Nat) : RateCode × Nat :=
  if kind = .audio then (.audioDelta, d)
  else if d = 3599 ∨ d = 3600 ∨ d = 3601 then (.fps25, d)
  else if d = 3002 ∨ d = 3003 ∨ d = 3004 then (.fps29_97, d)
  else if d = 1799 ∨ d = 1800 ∨ d = 1801 then (.fps50, d)
  else if d = 1501 ∨ d = 1502 then (.fps59_94, d)
  else (.defaultUsed, defdur)

/-- FD_PACKET on one view after another: the outcomes, and the state left. -/
def feed : List (Word × Word) → State → List (Bool × Bool) × State
  | [], s => ([], s)
  | (a, l) :: ps, s =>
    match exec .fdPacket { s with addr := a, len := l } with
    | .next t => ((t.status.newFrame, t.status.indepFrame) :: (feed ps t).1, (feed ps t).2)
    | _ => ([], s)

/-- Everything of a state but the buffer content. -/
def besidesBuffer (s : State) : State := { s with mem := [] }

/-- Command `i` may read buffer byte `a`: it lies in the command's view (20_memory.md R63). -/
def mayRead (s : State) (i : Instr) (a : Nat) : Prop :=
  if i ∈ brReads then s.brBase.toNat + s.brIdx.toNat ≤ a ∧ a < s.brBase.toNat + s.brLen.toNat
  else s.addr.toNat ≤ a ∧ a < s.addr.toNat + s.len.toNat

end Sys2Proof.Claims

open Sys2Proof Sys2Proof.Machine Sys2Proof.Claims

/-! ## Encoding -/

/-- R83: the legal words, in full, each with its command; exactly 35. -/
def Obligations.LegalWordsInFull : Prop :=
  (∀ (w : Word) (i : Instr), decode w = .ok i ↔ (w.toNat, i) ∈ legalWordTable) ∧
    legalWordTable.length = 35 ∧ (legalWordTable.map Prod.fst).Nodup

/-- R82: a word is legal iff the four checks hold; every other word ends with ILLEGAL. -/
def Obligations.LegalIffFourChecks : Prop :=
  ∀ w : Word,
    ((∃ i, decode w = .ok i) ↔ (CommandFields.ofWord w).wellFormed = true) ∧
      ((CommandFields.ofWord w).wellFormed = false → ∀ s, runCommand w s = .next (failed s w .illegal))

/-- R80, R84: encoding and decoding undo each other, on every command and on every legal word. -/
def Obligations.DecodeEncodeAgree : Prop :=
  (∀ i : Instr, decode (encode i) = .ok i) ∧ ∀ (w : Word) (i : Instr), decode w = .ok i → encode i = w

/-- R83: one word of each family decodes to the command it names, and four illegal words to none; the name of the check
each of these fails is the model's own (entry 14: R84 gives ILLEGAL for all four). -/
def Obligations.SampleWordsDecode : Prop :=
  decode 0x00000001 = .ok .clrStatus ∧ decode 0x00000110 = .ok .brInitRaw ∧ decode 0x00000013 = .ok .brUe ∧
    decode 0x00000123 = .ok .crcCheckAcc ∧ decode 0x00000025 = .ok .sectCheck ∧ decode 0x00000032 = .ok .tsPcrSet ∧
    decode 0x0000013C = .ok .tsSetTsDts ∧ decode 0x00000040 = .ok .t33Diff ∧ decode 0x00000250 = .ok .fdConfigH264 ∧
    decode 0x00001000 = .error .reservedBits ∧ decode 0x00000003 = .error .unassignedOpcode ∧
    decode 0x00000211 = .error .undefinedFlags ∧ decode 0x00000350 = .error .illegalKind

/-- R88: what each of the ten lines of a host program does, step by step. -/
def Obligations.HostLinesDoTheirExpansion : Prop :=
  ∀ (s : State) (rest : List HostOp), s.params.legal = true →
    (∀ r v, r ∈ writableRegisters →
      ∃ t, run 1 { s with host := (HostLine.wr r v).expand ++ rest } = .next t ∧ t.readReg r = v ∧
        (∀ r', r' ≠ r → t.readReg r' = s.readReg r') ∧ t.fdSamples = s.fdSamples ∧ t.mem = s.mem ∧ t.host = rest ∧
        t.hostReply = s.hostReply) ∧
    (∀ v, run 1 { s with host := (HostLine.wr .cmd v).expand ++ rest } = runCommand v { s with host := rest }) ∧
    (∀ r v, r ∉ writableRegisters → r ≠ .cmd →
      run 1 { s with host := (HostLine.wr r v).expand ++ rest } = .next { s with host := rest }) ∧
    (∀ r, run 1 { s with host := (HostLine.rd r).expand ++ rest } =
      .next { s with host := rest, hostReply := some (s.readReg r) }) ∧
    (∀ a n k, a + n ≤ s.params.bufSize → k < n →
      run (k + 1) { s with host := (HostLine.rdb a n).expand ++ rest } =
        .next { s with
          host := (HostLine.rdb (a + k + 1) (n - k - 1)).expand ++ rest
          hostReply := some (BitVec.ofNat 32 (s.bufByte (a + k)).toNat) }) ∧
    (∀ a, (HostLine.rdb a 0).expand = []) ∧
    (∀ a l, run 2 { s with host := (HostLine.view a l).expand ++ rest } =
      .next { s with addr := a, len := l, host := rest }) ∧
    (∀ v, run 2 { s with host := (HostLine.set64 .opa v).expand ++ rest } = .next { s with opa := v, host := rest }) ∧
    (∀ v, run 2 { s with host := (HostLine.set64 .opb v).expand ++ rest } = .next { s with opb := v, host := rest }) ∧
    (∀ i, run 1 { s with host := (HostLine.cmd i).expand ++ rest } = exec i { s with host := rest }) ∧
    (∀ a l, run 3 { s with host := (HostLine.crcv a l).expand ++ rest } =
      exec .crcCheck { s with addr := a, len := l, host := rest }) ∧
    (∀ a l, run 3 { s with host := (HostLine.sect a l).expand ++ rest } =
      exec .sectCheck { s with addr := a, len := l, host := rest }) ∧
    (∀ a l, run 3 { s with host := (HostLine.pkt a l).expand ++ rest } =
      exec .fdPacket { s with addr := a, len := l, host := rest }) ∧
    (∀ a bs, a + bs.length ≤ s.params.bufSize →
      ∃ t, run bs.length { s with host := (HostLine.wrb a bs).expand ++ rest } = .next t ∧
        t = { s with mem := t.mem, host := rest } ∧
        ∀ x, t.bufByte x = if a ≤ x ∧ x < a + bs.length then bs.getD (x - a) 0 else s.bufByte x)

/-! ## A step and the host bus -/

/-- R100 (the step is entry 3's): a CMD write runs exec of the command its word decodes to, on the state with the access
taken off; so does the word placed by withFetchWord. -/
def Obligations.StepRunsDecodedCommand : Prop :=
  ∀ (s : State) (i : Instr),
    (∀ rest w, decode w = .ok i →
      step { s with host := .write 0x0000C#17 4 w :: rest } = exec i { s with host := rest }) ∧
    ∀ nbits n, decodeTableWord nbits n = some i → step (s.withFetchWord nbits n) = exec i s

/-- R101, R242, R243 (with entry 3: an idle host changes nothing): every step answers a next state; the parameters never
change. -/
def Obligations.EveryStepAnswersNext : Prop :=
  ∀ s : State, ∃ t, step s = .next t ∧ t.params = s.params ∧ t.host = s.host.tail ∧ (s.host = [] → t = s)

/-- R20 to R41, R66, R71: a host read of register `k` returns its fields in their places, reserved bits 0, and changes
nothing but the reply (entry 4). -/
def Obligations.HostReadsRegister : Prop :=
  ∀ (s : State) (rest : List HostOp) (k : Nat) (r : Reg), registersInOrder[k]? = some r →
    s.brState.bits.nbits ≤ 8 → s.brState.bits.zeros ≤ 2 →
    step { s with host := .read (BitVec.ofNat 17 (4 * k)) 4 :: rest } =
      .next { s with host := rest, hostReply := some (BitVec.ofNat 32 (registerImage s r)) }

/-- R69: a host access of the buffer is little-endian, and touches its own bytes only. -/
def Obligations.BufferAccessLittleEndian : Prop :=
  (∀ (s : State) (rest : List HostOp) (a width : Nat), s.params.legal = true →
    width = 1 ∨ width = 2 ∨ width = 4 → a % width = 0 → a + width ≤ s.params.bufSize →
    step { s with host := .read (BitVec.ofNat 17 (0x10000 + a)) width :: rest } =
      .next { s with
        host := rest
        hostReply := some
          (BitVec.ofNat 32 ((List.range width).map fun i => (s.bufByte (a + i)).toNat * 2 ^ (8 * i)).sum) } ∧
    ∀ v : Word, ∃ t, step { s with host := .write (BitVec.ofNat 17 (0x10000 + a)) width v :: rest } = .next t ∧
      t = { s with host := rest, mem := t.mem } ∧
      ∀ x, t.bufByte x =
        if a ≤ x ∧ x < a + width then BitVec.ofNat 8 (v.toNat / 2 ^ (8 * (x - a))) else s.bufByte x) ∧
  Reg.opaHi.offset = Reg.opaLo.offset + 4 ∧ Reg.opbHi.offset = Reg.opbLo.offset + 4 ∧
  Reg.res0Hi.offset = Reg.res0Lo.offset + 4 ∧ Reg.res1Hi.offset = Reg.res1Lo.offset + 4

/-- R45, and R27, R28, R41's "all bits stored": a host write of a writable register is read back and changes no other; of
any other register but CMD it does nothing. -/
def Obligations.HostWritesRegister : Prop :=
  ∀ (s : State) (rest : List HostOp) (k : Nat) (r : Reg) (v : Word), registersInOrder[k]? = some r →
    (r ∈ writableRegisters →
      ∃ t, step { s with host := .write (BitVec.ofNat 17 (4 * k)) 4 v :: rest } = .next t ∧ t.readReg r = v ∧
        (∀ r', r' ≠ r → t.readReg r' = s.readReg r') ∧ t.fdSamples = s.fdSamples ∧ t.mem = s.mem ∧
        t.powerCycle = s.powerCycle ∧ t.params = s.params ∧ t.host = rest ∧ t.hostReply = s.hostReply) ∧
    (r ∉ writableRegisters → r ≠ .cmd →
      step { s with host := .write (BitVec.ofNat 17 (4 * k)) 4 v :: rest } = .next { s with host := rest })

/-- R67, R68, R247: an erroneous access sets BUSERR; a read returns 0; nothing else changes. -/
def Obligations.ErroneousAccessSetsBuserr : Prop :=
  ∀ (s : State) (rest : List HostOp) (addr : BitVec 17) (width : Nat), ¬legalAccess s.params.bufSize addr width →
    step { s with host := .read addr width :: rest } =
      .next { s with host := rest, hostReply := some 0, status := { s.status with busErr := true } } ∧
    ∀ v, step { s with host := .write addr width v :: rest } =
      .next { s with host := rest, status := { s.status with busErr := true } }

/-! ## Reset and the control commands -/

/-- R260: every register's reset value, for every legal unit; no sample; buffer bytes unspecified (a free value each). -/
def Obligations.ResetValues : Prop :=
  (∀ (p : Params) (r : Reg), ((State.resetWith p).readReg r).toNat = resetImage p r) ∧
    (∀ p : Params, (State.resetWith p).fdSamples = [] ∧ (State.resetWith p).params = p ∧
      ∀ a, (State.resetWith p).bufByte a = Config.powerOnByte 0 a) ∧
    State.reset = State.resetWith { bufSize := 8192, ptsWindow := 32 }

/-- R260 as an event between host accesses (the model's reading: entries 2 and 5): a power-on reset. -/
def Obligations.PowerOnStepResets : Prop :=
  ∀ (s : State) (rest : List HostOp),
    ∃ t, step { s with host := .powerOn :: rest } = .next t ∧ (∀ r, (t.readReg r).toNat = resetImage s.params r) ∧
      t.fdSamples = [] ∧ t.params = s.params ∧ t.host = rest ∧
      ∀ a, t.bufByte a = Config.powerOnByte (s.powerCycle + 1) a

/-- R105, R261: SOFT_RESET. -/
def Obligations.SoftResetKeepsCmdAndBuffer : Prop :=
  ∀ s : State, ∃ t, exec .softReset s = .next t ∧ t.cmd = 0x00000002#32 ∧
    (∀ r, r ≠ .cmd → (t.readReg r).toNat = resetImage s.params r) ∧ t.fdSamples = [] ∧
    (∀ a, t.bufByte a = s.bufByte a) ∧ t.params = s.params ∧ t.host = s.host ∧ t.hostReply = s.hostReply

/-- R103, R104: NOP and CLR_STATUS, whole. -/
def Obligations.NopAndClrStatus : Prop :=
  ∀ s : State,
    exec .nop s = .next (answered s .nop false) ∧
      exec .clrStatus s =
        .next { s with cmd := 0x00000001#32, status := { quiet s.status with stickyErr := false, busErr := false } }

/-! ## Errors and the frame of every command -/

/-- R102, R240, R241, R242: which error a command word ends with, and that it changes nothing else; without one, ERR is 0
and STICKY_ERR is not set. -/
def Obligations.ErrorsAndTheirPriority : Prop :=
  ∀ (s : State) (w : Word),
    (∀ e, errorOf s (commandOf w) = some e → runCommand w s = .next (failed s w e)) ∧
    (errorOf s (commandOf w) = none →
      ∃ t, runCommand w s = .next t ∧ t.cmd = w ∧ t.status.err = .noError ∧
        (t.status.stickyErr = true → s.status.stickyErr = true))

/-- R25's last column, R26: which command may set which STATUS field; what a copied field copies, of a packet processed and of
a read that ends without an error; the sticky ones. -/
def Obligations.StatusWriters : Prop :=
  ∀ (i : Instr) (s t : State), exec i s = .next t →
    (t.status.valid = true → i ∉ [.nop, .clrStatus, .softReset]) ∧
    (t.status.needMore = true → i ∈ [.sectCheck, .tsHdr, .pesAnalyze, .fdPacket]) ∧
    (t.status.malformed = true → i ∈ [.sectCheck, .tsHdr, .pesAnalyze, .fdPacket]) ∧
    (t.status.newFrame = true ∨ t.status.indepFrame = true → i = .fdPacket ∧ t.status.valid = true) ∧
    (i = .fdPacket → t.status.valid = true →
      t.status.newFrame = t.fdResult.newFrame ∧ t.status.indepFrame = t.fdResult.indepFrame) ∧
    (t.status.brOvf = true → i = .brUe ∨ i = .brSe) ∧
    (t.status.brEod = true → i ∈ brReads ∧ t.status.err = .noError) ∧
    (i ∈ brReads → t.status.err = .noError → t.status.brEod = t.brState.bits.pastEnd) ∧
    (i ∈ [.clrStatus, .softReset] → t.status.stickyErr = false ∧ t.status.busErr = false) ∧
    (i ∉ [.clrStatus, .softReset] →
      t.status.busErr = s.status.busErr ∧
        (t.status.stickyErr = true ↔ s.status.stickyErr = true ∨ t.status.err ≠ .noError))

/-- R27 to R42, R46 (SOFT_RESET apart: entry 6): the commands that may change each register, FD_SAMPLES included. -/
def Obligations.RegisterWriters : Prop :=
  ∀ (i : Instr) (s t : State), exec i s = .next t →
    t.params = s.params ∧ t.host = s.host ∧ t.hostReply = s.hostReply ∧ t.powerCycle = s.powerCycle ∧
    t.cmd = encode i ∧ (i ≠ .fdPacket → t.freeCount = s.freeCount) ∧
    (i ≠ .softReset →
      t.addr = s.addr ∧ t.len = s.len ∧ t.opa = s.opa ∧ t.opb = s.opb ∧ t.fdDefdur = s.fdDefdur ∧
      (i ∉ [.crcInit, .crcSeed, .crcUpdate] → t.crc = s.crc) ∧
      (i ∉ brInits → t.brBase = s.brBase ∧ t.brLen = s.brLen ∧ t.brState.active = s.brState.active ∧
        t.brState.bits.raw = s.brState.bits.raw) ∧
      (i ∉ brInits → i ∉ brReads → t.brIdx = s.brIdx ∧ t.brState = s.brState) ∧
      (i ∉ fdConfigs → t.fdCfg = s.fdCfg) ∧
      (i ∉ fdConfigs → i ≠ .fdPacket →
        t.fdScanner = s.fdScanner ∧ t.fdH264 = s.fdH264 ∧ t.fdLog2mfn = s.fdLog2mfn ∧ t.fdResult = s.fdResult ∧
          t.fdRate = s.fdRate ∧ t.fdDuration = s.fdDuration ∧ t.fdSamples = s.fdSamples) ∧
      (i ∈ [.nop, .clrStatus] ∨ i ∈ brInits ∨ i ∈ fdConfigs → t.res0 = s.res0) ∧
      (i ∈ [.nop, .clrStatus] ∨ i ∈ brInits ∨ i ∈ brReads ∨ i ∈ fdConfigs ∨
          i ∈ [.crcInit, .crcSeed, .crcUpdate, .crcCheck, .crcCheckAcc, .crcAppend, .tsPcrSet, .pesGetTsPts,
            .pesGetTsDts, .pesSetTsPts, .pesSetTsDts, .t33Add] →
        t.res1 = s.res1))

/-- R61: the only commands that write the buffer, the bytes each may write, and that they lie inside the view but for
CRC_APPEND's. -/
def Obligations.BufferWriters : Prop :=
  ∀ (i : Instr) (s t : State) (a : Nat), exec i s = .next t → t.bufByte a ≠ s.bufByte a →
    ((i = .crcAppend ∧ s.addr.toNat + s.len.toNat ≤ a ∧ a < s.addr.toNat + s.len.toNat + 4) ∨
      (i = .tsPcrSet ∧ s.addr.toNat + 6 ≤ a ∧ a < s.addr.toNat + 12) ∨
      (∃ sel, i = pesSet sel ∧ s.addr.toNat + stampPos sel ≤ a ∧ a < s.addr.toNat + stampPos sel + 5) ∨
      ∃ sel k, i = tsSet sel ∧ firstCarrier s sel k ∧
        s.addr.toNat + (k * 188 + offAt s (k * 188) + stampPos sel) ≤ a ∧
        a < s.addr.toNat + (k * 188 + offAt s (k * 188) + stampPos sel) + 5) ∧
    (i ≠ .crcAppend → s.addr.toNat ≤ a ∧ a < s.addr.toNat + s.len.toNat)

/-- R63, R77, R216: a command's outcome does not depend on a buffer byte outside its view. -/
def Obligations.NoReadOutsideTheView : Prop :=
  ∀ (i : Instr) (s s' t t' : State), besidesBuffer s = besidesBuffer s' →
    (∀ a, mayRead s i a → s.bufByte a = s'.bufByte a) → exec i s = .next t → exec i s' = .next t' →
    besidesBuffer t = besidesBuffer t' ∧ ∀ a, s.bufByte a = s'.bufByte a → t.bufByte a = t'.bufByte a

/-- R64: multi-byte reads and writes are big-endian. -/
def Obligations.BigEndianReadsAndWrites : Prop :=
  (∀ (s : State) (a n : Nat),
    s.memRead a n = ((List.range n).map fun i => (s.bufByte (a + i)).toNat * 2 ^ (8 * (n - 1 - i))).sum) ∧
  (∀ (s : State) (a n v x : Nat),
    (s.memWrite a n v).bufByte x =
      if a ≤ x ∧ x < a + n then BitVec.ofNat 8 (v / 2 ^ (8 * (n - 1 - (x - a)))) else s.bufByte x) ∧
  (∀ (V : View) (i : Nat), V.u16 i = (V.get i).toNat * 2 ^ 8 + (V.get (i + 1)).toNat) ∧
  ∀ (V : View) (i : Nat), V.u32 i =
    (V.get i).toNat * 2 ^ 24 + (V.get (i + 1)).toNat * 2 ^ 16 + (V.get (i + 2)).toNat * 2 ^ 8 + (V.get (i + 3)).toNat

/-! ## Bit reader -/

/-- R111: BR_INIT and BR_INIT.RAW, whole. -/
def Obligations.BrInitStartsCursor : Prop :=
  ∀ (s : State) (raw : Bool),
    (inRange s →
      exec (if raw then .brInitRaw else .brInit) s =
        .next { answered s (if raw then .brInitRaw else .brInit) true with
          brBase := s.addr, brLen := s.len, brIdx := 0
          brState :=
            { bits := { cur := 0, nbits := 0, zeros := 0, raw := raw, pastEnd := false }, active := true } }) ∧
    (¬inRange s →
      exec (if raw then .brInitRaw else .brInit) s =
        .next (failed s (encode (if raw then .brInitRaw else .brInit)) .range))

/-- R110, R114: BR_BIT takes one bit, the most significant first; while NBITS > 0 it fetches nothing. -/
def Obligations.BrBitTakesNextBit : Prop :=
  ∀ s : State,
    (s.brState.active = true →
      ∃ t, exec .brBit s = .next t ∧
        brAnswer s t .brBit 1 (BitVec.ofNat 64 ((brBitsLeft s).headD false).toNat) false ∧
        (0 < s.brState.bits.nbits →
          t.brIdx = s.brIdx ∧ t.brState.bits = { s.brState.bits with nbits := s.brState.bits.nbits - 1 }) ∧
        (s.brState.bits.nbits = 0 → t.brState.bits.nbits = 7)) ∧
    (s.brState.active = false → exec .brBit s = .next (failed s (encode .brBit) .notConfigured))

/-- R115: BR_BITS takes OPA bits as a number, the first most significant. -/
def Obligations.BrBitsTakesNumber : Prop :=
  ∀ s : State,
    (s.brState.active = true → s.opa.toNat ≤ 32 →
      ∃ t, exec .brBits s = .next t ∧
        brAnswer s t .brBits s.opa.toNat (BitVec.ofNat 64 (number (zeroFilled (brBitsLeft s) s.opa.toNat))) false) ∧
    (s.brState.active = false → exec .brBits s = .next (failed s (encode .brBits) .notConfigured)) ∧
    (s.brState.active = true → 32 < s.opa.toNat → exec .brBits s = .next (failed s (encode .brBits) .badOperand))

/-- R116: BR_UE takes one unsigned Exp-Golomb code. -/
def Obligations.BrUeTakesExpGolomb : Prop :=
  ∀ s : State,
    (s.brState.active = true →
      ∃ t, exec .brUe s = .next t ∧
        brAnswer s t .brUe (ueOf (brBitsLeft s)).2.1 (BitVec.ofNat 64 (ueOf (brBitsLeft s)).2.2.1)
          (ueOf (brBitsLeft s)).2.2.2) ∧
    (s.brState.active = false → exec .brUe s = .next (failed s (encode .brUe) .notConfigured))

/-- R117: BR_SE takes one signed Exp-Golomb code, its value in RES0 as a signed number. -/
def Obligations.BrSeTakesSignedExpGolomb : Prop :=
  ∀ s : State,
    (s.brState.active = true →
      ∃ t, exec .brSe s = .next t ∧
        brAnswer s t .brSe (ueOf (brBitsLeft s)).2.1 t.res0 (ueOf (brBitsLeft s)).2.2.2 ∧
        ((ueOf (brBitsLeft s)).2.2.2 = true → t.res0.toInt = -2 ^ 31) ∧
        ((ueOf (brBitsLeft s)).2.2.2 = false → ∀ k : Nat, (ueOf (brBitsLeft s)).2.2.1 = k →
          (k % 2 = 1 → 2 * t.res0.toInt = k + 1) ∧ (k % 2 = 0 → 2 * t.res0.toInt = -k))) ∧
    (s.brState.active = false → exec .brSe s = .next (failed s (encode .brSe) .notConfigured))

/-- R112, R113, R118: BR_BYTE drops the unread bits and delivers the next byte, its emulation-prevention byte removed. -/
def Obligations.BrByteFetchesNextByte : Prop :=
  ∀ s : State,
    (s.brState.active = true →
      ∃ t, exec .brByte s = .next t ∧
        brAnswer s t .brByte (s.brState.bits.nbits + 8)
          (BitVec.ofNat 64 (fetched s.brState.bits.raw s.brState.bits.zeros (brRest s)).1.toNat) false ∧
        t.brState.bits.cur = (fetched s.brState.bits.raw s.brState.bits.zeros (brRest s)).1 ∧
        t.brState.bits.nbits = 0 ∧
        t.brIdx.toNat = s.brIdx.toNat + (fetched s.brState.bits.raw s.brState.bits.zeros (brRest s)).2.1 ∧
        t.brState.bits.zeros = (fetched s.brState.bits.raw s.brState.bits.zeros (brRest s)).2.2) ∧
    (s.brState.active = false → exec .brByte s = .next (failed s (encode .brByte) .notConfigured))

/-- R112, R113, R118: after BR_INIT, any number of BR_BYTE commands deliver the view's bytes in order without their
emulation-prevention bytes (with RAW, as they are), then zeros. -/
def Obligations.BrBytesDeliverTheView : Prop :=
  ∀ (s t : State) (raw : Bool) (n : Nat), inRange s → exec (if raw then .brInitRaw else .brInit) s = .next t →
    brByteRun n t =
      (List.range n).map fun k =>
        ((if raw then viewBytes s else withoutEscapes 0 (viewBytes s)).getD k 0).toNat

/-- R77: the cursor reads the buffer live: a host write below BR_IDX changes no later read, one at or above it is seen. -/
def Obligations.BrCursorReadsLive : Prop :=
  ∀ (s : State) (rest : List HostOp) (a : Nat) (v : Word), s.params.legal = true → a < s.params.bufSize →
    ∃ t, step { s with host := .write (BitVec.ofNat 17 (0x10000 + a)) 1 v :: rest } = .next t ∧
      (a < s.brBase.toNat + s.brIdx.toNat →
        brRest t = brRest s ∧
          ∀ i ∈ brReads, ∀ t' s', exec i t = .next t' → exec i { s with host := rest } = .next s' →
            besidesBuffer t' = besidesBuffer s') ∧
      (∀ k, a = s.brBase.toNat + s.brIdx.toNat + k → s.brIdx.toNat + k < s.brLen.toNat →
        brRest t = (brRest s).set k (v.setWidth 8))

/-! ## CRC -/

/-- R130: the CRC function, bit by bit, by table, over a split message, and its check value. -/
def Obligations.CrcFunction : Prop :=
  (∀ c : Word, crc32Update c [] = c) ∧
  (∀ (c : Word) (d : Byte) (D : List Byte), crc32Update c (d :: D) = crc32Update (crc32Update c [d]) D) ∧
  (∀ (c : Word) (d : Byte), (crc32Update c [d]).toNat = crcRound^[8] (c.toNat ^^^ (d.toNat * 2 ^ 24))) ∧
  (∀ (c : Word) (d : Byte),
    crc32Update c [d] = (c <<< 8) ^^^ crc32Update 0#32 [(c >>> 24).setWidth 8 ^^^ d]) ∧
  crc32Update 0xFFFFFFFF#32 [0x31, 0x32, 0x33, 0x34, 0x35, 0x36, 0x37, 0x38, 0x39] = 0x0376E6E7#32

/-- R131, R132, R133, R134: the commands over the CRC register and the check, whole; a message in pieces. -/
def Obligations.CrcRegisterCommands : Prop :=
  (∀ s : State,
    exec .crcInit s = .next { answered s .crcInit true with crc := 0xFFFFFFFF#32, res0 := 0xFFFFFFFF#64 } ∧
    exec .crcSeed s =
      .next { answered s .crcSeed true with
        crc := BitVec.ofNat 32 s.opa.toNat, res0 := BitVec.ofNat 64 (s.opa.toNat % 2 ^ 32) } ∧
    (inRange s →
      (∀ c, c = crc32Update s.crc (viewBytes s) →
        exec .crcUpdate s = .next { answered s .crcUpdate (c == 0) with crc := c, res0 := BitVec.ofNat 64 c.toNat } ∧
        exec .crcCheckAcc s = .next { answered s .crcCheckAcc (c == 0) with res0 := BitVec.ofNat 64 c.toNat }) ∧
      exec .crcCheck s =
        .next { answered s .crcCheck (viewCrc s == 0) with res0 := BitVec.ofNat 64 (viewCrc s).toNat }) ∧
    (¬inRange s → ∀ i ∈ [Instr.crcUpdate, .crcCheck, .crcCheckAcc], exec i s = .next (failed s (encode i) .range))) ∧
  ∀ (c : Word) (A B : List Byte), crc32Update (crc32Update c A) B = crc32Update c (A ++ B)

/-- R135: CRC_APPEND, whole. -/
def Obligations.CrcAppendWritesBigEndian : Prop :=
  ∀ s : State,
    (s.addr.toNat + s.len.toNat + 4 ≤ s.params.bufSize →
      ∃ t, exec .crcAppend s = .next t ∧
        t = { answered s .crcAppend true with res0 := BitVec.ofNat 64 (viewCrc s).toNat, mem := t.mem } ∧
        ∀ a, t.bufByte a =
          if s.addr.toNat + s.len.toNat ≤ a ∧ a < s.addr.toNat + s.len.toNat + 4 then
            (crcTail (viewCrc s)).getD (a - (s.addr.toNat + s.len.toNat)) 0
          else s.bufByte a) ∧
    (s.params.bufSize < s.addr.toNat + s.len.toNat + 4 →
      exec .crcAppend s = .next (failed s (encode .crcAppend) .range))

/-- R136: SECT_CHECK, whole, case by case. -/
def Obligations.SectCheckCases : Prop :=
  ∀ s : State,
    (inRange s →
      (s.len.toNat < 3 → exec .sectCheck s = .next { answeredNeedMore s .sectCheck with res0 := 0, res1 := 0 }) ∧
      (3 ≤ s.len.toNat → s.len.toNat < 3 + sectLen s →
        exec .sectCheck s =
          .next { answeredNeedMore s .sectCheck with res0 := 0, res1 := BitVec.ofNat 64 (sectInfo s) }) ∧
      (3 + sectLen s ≤ s.len.toNat → sectLen s < 4 →
        exec .sectCheck s =
          .next { answeredMalformed s .sectCheck with res0 := 0, res1 := BitVec.ofNat 64 (sectInfo s) }) ∧
      (3 + sectLen s ≤ s.len.toNat → 4 ≤ sectLen s →
        ∀ c, c = crc32Update 0xFFFFFFFF#32 ((viewBytes s).take (3 + sectLen s)) →
          exec .sectCheck s =
            .next { answered s .sectCheck (c == 0) with
              res0 := if c = 0#32 then BitVec.ofNat 64 (3 + sectLen s) else 0
              res1 := BitVec.ofNat 64 (sectInfo s + c.toNat) })) ∧
    (¬inRange s → exec .sectCheck s = .next (failed s (encode .sectCheck) .range))

/-- R137: the residue; a section that CRC_APPEND completed passes CRC_CHECK and SECT_CHECK. -/
def Obligations.AppendedSectionPasses : Prop :=
  (∀ D : List Byte, crc32Update 0xFFFFFFFF#32 (D ++ crcTail (crc32Update 0xFFFFFFFF#32 D)) = 0#32) ∧
  ∀ s t : State, s.params.legal = true → s.addr.toNat + s.len.toNat + 4 ≤ s.params.bufSize →
    exec .crcAppend s = .next t →
    (∃ u, exec .crcCheck { t with len := s.len + 4 } = .next u ∧ u.status.valid = true ∧ u.res0 = 0#64) ∧
    (3 ≤ s.len.toNat → sectLen s = s.len.toNat + 1 →
      ∃ u, exec .sectCheck { t with len := s.len + 4 } = .next u ∧ u.status.valid = true ∧
        u.res0 = BitVec.ofNat 64 (s.len.toNat + 4))

/-- R138: flipping any one bit of a byte sequence that passes CRC_CHECK makes it fail. -/
def Obligations.SingleBitErrorDetected : Prop :=
  ∀ (s t : State) (i : Instr) (j k : Nat), i = .crcCheck ∨ i = .crcCheckAcc → inRange s → j < s.len.toNat → k < 8 →
    exec i s = .next t → t.status.valid = true →
    ∃ u, exec i (s.setByte (s.addr.toNat + j) (s.bufByte (s.addr.toNat + j) ^^^ (1#8 <<< k))) = .next u ∧
      u.status.valid = false

/-! ## TS packets, PCR, PES headers -/

/-- R150, R151: TS_HDR, whole. -/
def Obligations.TsHdrFields : Prop :=
  ∀ s : State,
    (inRange s →
      ∀ bad : Bool,
        (bad = true ↔ 188 ≤ s.len.toNat ∧ (byteAt s 0 ≠ 0x47 ∨ (adaptAt s 0 = true ∧ 183 < byteAt s 4))) →
        exec .tsHdr s =
          .next { s with
            cmd := encode .tsHdr
            status := { quiet s.status with
              valid := decide (188 ≤ s.len.toNat) && !bad, needMore := decide (s.len.toNat < 188), malformed := bad }
            res0 := BitVec.ofNat 64
              (pidAt s 0 + 2 ^ 13 * (byteAt s 1 / 32 % 2) + 2 ^ 14 * (pusiAt s 0).toNat + 2 ^ 15 * (byteAt s 1 / 128) +
                2 ^ 16 * (byteAt s 3 / 16 % 4) + 2 ^ 18 * (byteAt s 3 / 64) + 2 ^ 20 * (byteAt s 3 % 16))
            res1 := BitVec.ofNat 64
              (offAt s 0 + 2 ^ 8 * (if payloadAt s 0 then 188 - offAt s 0 else 0) + 2 ^ 16 * (pcrFlag s).toNat +
                (if pidAt s 0 = 0x1FFF then 2 ^ 17 else 0)) }) ∧
    (¬inRange s → exec .tsHdr s = .next (failed s (encode .tsHdr) .range))

/-- R152: TS_PCR_GET, whole. -/
def Obligations.TsPcrGetReads : Prop :=
  ∀ s : State,
    (inRange s → pcrFlag s = true → 12 ≤ s.len.toNat →
      exec .tsPcrGet s =
        .next { answered s .tsPcrGet true with
          res0 := BitVec.ofNat 64 ((pcrFields s).1 * 300 + (pcrFields s).2)
          res1 := BitVec.ofNat 64 ((pcrFields s).1 + (pcrFields s).2 * 2 ^ 40) }) ∧
    (inRange s → ¬(pcrFlag s = true ∧ 12 ≤ s.len.toNat) →
      exec .tsPcrGet s = .next { answered s .tsPcrGet false with res0 := allOnes, res1 := allOnes }) ∧
    (¬inRange s → exec .tsPcrGet s = .next (failed s (encode .tsPcrGet) .range))

/-- R153: TS_PCR_SET, whole; a later TS_PCR_GET returns OPA mod (2^33 * 300). -/
def Obligations.TsPcrSetWrites : Prop :=
  ∀ s : State,
    (inRange s → pcrFlag s = true → 12 ≤ s.len.toNat →
      ∃ t, exec .tsPcrSet s = .next t ∧
        t = { answered s .tsPcrSet true with
          res0 := BitVec.ofNat 64 (s.opa.toNat / 300 % 2 ^ 33 * 300 + s.opa.toNat % 300), mem := t.mem } ∧
        (∀ a, t.bufByte a =
          if s.addr.toNat + 6 ≤ a ∧ a < s.addr.toNat + 12 then
            BitVec.ofNat 8 (pcrByte (s.opa.toNat / 300 % 2 ^ 33) (s.opa.toNat % 300) (a - (s.addr.toNat + 6)))
          else s.bufByte a) ∧
        ∃ u, exec .tsPcrGet t = .next u ∧ u.status.valid = true ∧
          u.res0 = BitVec.ofNat 64 (s.opa.toNat % (2 ^ 33 * 300))) ∧
    (inRange s → ¬(pcrFlag s = true ∧ 12 ≤ s.len.toNat) →
      exec .tsPcrSet s = .next { answered s .tsPcrSet false with res0 := allOnes }) ∧
    (¬inRange s → exec .tsPcrSet s = .next (failed s (encode .tsPcrSet) .range))

/-- R155: PES_ANALYZE, whole, with the stuffing bytes counted. -/
def Obligations.PesAnalyzeClassifies : Prop :=
  ∀ s : State,
    (inRange s →
      ∀ kind off cont, analysis (byteAt s) s.len.toNat = (kind, off, cont) →
        exec .pesAnalyze s =
          .next { s with
            cmd := encode .pesAnalyze
            status := { quiet s.status with
              valid := decide (kind = 2 ∨ kind = 3), needMore := decide (kind = 0), malformed := decide (kind = 1) }
            res0 := BitVec.ofNat 64 (kind + 256 * cont.toNat), res1 := BitVec.ofNat 64 off }) ∧
    (¬inRange s → exec .pesAnalyze s = .next (failed s (encode .pesAnalyze) .range))

/-- R154, R156, R160: PES_GET_TS, whole, both selectors. -/
def Obligations.PesGetTsExtracts : Prop :=
  ∀ (s : State) (sel : TsSel),
    (inRange s → hasStamp s sel 0 s.len.toNat →
      exec (pesGet sel) s =
        .next { answered s (pesGet sel) true with res0 := BitVec.ofNat 64 (stampAt s (stampPos sel)) }) ∧
    (inRange s → ¬hasStamp s sel 0 s.len.toNat →
      exec (pesGet sel) s = .next { answered s (pesGet sel) false with res0 := allOnes }) ∧
    (¬inRange s → exec (pesGet sel) s = .next (failed s (encode (pesGet sel)) .range))

/-- R157, R163: PES_SET_TS, whole, both selectors, byte by byte; PES_GET_TS then returns OPA mod 2^33 and the kept bits
of the first byte are as before. -/
def Obligations.PesSetTsRoundTrips : Prop :=
  ∀ (s : State) (sel : TsSel),
    (inRange s → hasStamp s sel 0 s.len.toNat →
      ∃ t, exec (pesSet sel) s = .next t ∧
        t = { answered s (pesSet sel) true with res0 := BitVec.ofNat 64 (s.opa.toNat % 2 ^ 33), mem := t.mem } ∧
        stampWritten s t (stampPos sel) ∧
        t.bufByte (s.addr.toNat + stampPos sel) &&& 0xF1#8 = s.bufByte (s.addr.toNat + stampPos sel) &&& 0xF1#8 ∧
        ∃ u, exec (pesGet sel) t = .next u ∧ u.status.valid = true ∧
          u.res0 = BitVec.ofNat 64 (s.opa.toNat % 2 ^ 33)) ∧
    (inRange s → ¬hasStamp s sel 0 s.len.toNat →
      exec (pesSet sel) s = .next { answered s (pesSet sel) false with res0 := allOnes }) ∧
    (¬inRange s → exec (pesSet sel) s = .next (failed s (encode (pesSet sel)) .range))

/-- R158, R162: TS_FIND_TS, whole: the first packet of the view that carries the timestamp. -/
def Obligations.TsFindTsFindsFirst : Prop :=
  ∀ (s : State) (sel : TsSel),
    (inRange s → ∀ k, firstCarrier s sel k →
      exec (tsFind sel) s =
        .next { answered s (tsFind sel) true with
          res0 := BitVec.ofNat 64 (stampAt s (k * 188 + offAt s (k * 188) + stampPos sel))
          res1 := BitVec.ofNat 64 (k * 188) }) ∧
    (inRange s → (∀ k, ¬carrier s sel k) →
      exec (tsFind sel) s = .next { answered s (tsFind sel) false with res0 := allOnes, res1 := allOnes }) ∧
    (¬inRange s → exec (tsFind sel) s = .next (failed s (encode (tsFind sel)) .range))

/-- R159, R161: TS_SET_TS, whole, byte by byte: only the first packet that carries the timestamp is written. -/
def Obligations.TsSetTsWritesFirst : Prop :=
  ∀ (s : State) (sel : TsSel),
    (inRange s → ∀ k, firstCarrier s sel k →
      ∃ t, exec (tsSet sel) s = .next t ∧
        t = { answered s (tsSet sel) true with
          res0 := BitVec.ofNat 64 (s.opa.toNat % 2 ^ 33), res1 := BitVec.ofNat 64 (k * 188), mem := t.mem } ∧
        stampWritten s t (k * 188 + offAt s (k * 188) + stampPos sel)) ∧
    (inRange s → (∀ k, ¬carrier s sel k) →
      exec (tsSet sel) s = .next { answered s (tsSet sel) false with res0 := allOnes, res1 := allOnes }) ∧
    (¬inRange s → exec (tsSet sel) s = .next (failed s (encode (tsSet sel)) .range))

/-- R159's corner case: after a TS_SET_TS that wrote, TS_FIND_TS with the same selector returns OPA mod 2^33 and the same
RES1. -/
def Obligations.TsSetThenFindAgree : Prop :=
  ∀ (s t : State) (sel : TsSel), exec (tsSet sel) s = .next t → t.status.valid = true →
    ∃ u, exec (tsFind sel) t = .next u ∧ u.status.valid = true ∧ u.res0 = BitVec.ofNat 64 (s.opa.toNat % 2 ^ 33) ∧
      u.res1 = t.res1

/-! ## Timestamp arithmetic -/

/-- R181, R182, R183: T33_DIFF and T33_ADD, whole, by what characterises their results; adding a difference gives back the
second operand. -/
def Obligations.TimestampArithmetic : Prop :=
  ∀ s : State,
    (∃ t, exec .t33Diff s = .next t ∧
      t = { answered s .t33Diff true with
        res0 := t.res0
        res1 := BitVec.ofNat 64 (((s.opb.toNat % 2 ^ 33 : Int) - (s.opa.toNat % 2 ^ 33 : Int)) % 2 ^ 33).toNat } ∧
      -2 ^ 32 ≤ t.res0.toInt ∧ t.res0.toInt < 2 ^ 32 ∧ (2 ^ 33 : Int) ∣ t.res0.toInt - ((s.opb.toNat : Int) - s.opa.toNat) ∧
      ∃ u, exec .t33Add { s with opb := t.res0 } = .next u ∧ u.res0 = BitVec.ofNat 64 (s.opb.toNat % 2 ^ 33)) ∧
    exec .t33Add s =
      .next { answered s .t33Add true with
        res0 := BitVec.ofNat 64 ((s.opa.toNat % 2 ^ 33 + s.opb.toNat % 2 ^ 33) % 2 ^ 33) }

/-! ## Frame detector -/

/-- R191: FD_CONFIG, whole, its three forms. -/
def Obligations.FdConfigClearsDetector : Prop :=
  ∀ (s : State) (i : Instr) (k : Kind),
    (i, k) ∈ [(Instr.fdConfigAudio, Kind.audio), (.fdConfigMpeg2, .mpeg2), (.fdConfigH264, .h264)] →
    (s.opa.toNat ≤ 0x1FFF →
      exec i s =
        .next { answered s i true with
          fdCfg := { pid := BitVec.ofNat 13 s.opa.toNat, kind := k, configured := true }
          fdScanner := 0xFFFFFFFF#32
          fdH264 := { gotAud := false, gotSps := false, frameMbsOnly := false, sepColourPlane := false }
          fdLog2mfn := 0
          fdResult :=
            { newFrame := false, indepFrame := false, frameType := 0, fieldPic := false, bottomField := false, startOff := 0 }
          fdRate := { synced := false, fieldCoded := false, rateCode := .undecided, iframeSeen := false }
          fdDuration := 0, fdSamples := [] }) ∧
    (0x1FFF < s.opa.toNat → exec i s = .next (failed s (encode i) .badOperand))

/-- R194, R195 within R192: FD_PACKET where it processes no packet: too short, out of sync (the least skip), another
stream's packet; and its two errors. -/
def Obligations.FdPacketPassesOver : Prop :=
  ∀ s : State,
    (s.fdCfg.configured = false → exec .fdPacket s = .next (failed s (encode .fdPacket) .notConfigured)) ∧
    (s.fdCfg.configured = true → ¬inRange s → exec .fdPacket s = .next (failed s (encode .fdPacket) .range)) ∧
    (s.fdCfg.configured = true → inRange s → s.len.toNat < 188 →
      exec .fdPacket s = .next { answeredNeedMore s .fdPacket with res0 := 0, res1 := 0 }) ∧
    (packetReady s → byteAt s 0 ≠ 0x47 →
      ∃ n, exec .fdPacket s = .next { answeredMalformed s .fdPacket with res0 := BitVec.ofNat 64 n, res1 := 0 } ∧
        1 ≤ n ∧ (∀ j, 1 ≤ j → j < n → ¬likelySync s j) ∧
        (n = s.len.toNat ∨ (n < s.len.toNat ∧ likelySync s n))) ∧
    (packetReady s → byteAt s 0 = 0x47 → ¬accepted s →
      exec .fdPacket s = .next { answered s .fdPacket false with res0 := 188, res1 := 0 })

/-- R192, R193, R196: FD_PACKET on an accepted packet: it completes, RES1 and STATUS copy the result record, nothing
outside the detector changes; the audio parser's result and each video parser's rule for INDEP_FRAME. -/
def Obligations.FdPacketProcesses : Prop :=
  ∀ s : State, packetReady s → accepted s →
    ∃ t, exec .fdPacket s = .next t ∧
      t = { s with
        cmd := encode .fdPacket
        status := { quiet s.status with
          valid := true, newFrame := t.fdResult.newFrame, indepFrame := t.fdResult.indepFrame }
        res0 := 188, res1 := BitVec.ofNat 64 (resultImage t.fdResult)
        fdScanner := t.fdScanner, fdH264 := t.fdH264, fdLog2mfn := t.fdLog2mfn, fdResult := t.fdResult
        fdRate := t.fdRate, fdDuration := t.fdDuration, fdSamples := t.fdSamples, freeCount := t.freeCount } ∧
      (s.fdCfg.kind = .audio →
        t.fdResult =
          (if pusiAt s 0 then
            { newFrame := true, indepFrame := true, frameType := 0, fieldPic := false, bottomField := false
              startOff := BitVec.ofNat 8 (offAt s 0) }
          else
            { newFrame := false, indepFrame := false, frameType := 0, fieldPic := false, bottomField := false
              startOff := 0 }) ∧
        t.fdScanner.toNat = scannerBefore s) ∧
      (s.fdCfg.kind = .mpeg2 →
        (t.fdResult.indepFrame = true ↔ t.fdResult.newFrame = true ∧ t.fdResult.frameType = 1) ∧
        t.fdResult.fieldPic = false ∧ t.fdResult.bottomField = false) ∧
      (s.fdCfg.kind = .h264 →
        (t.fdResult.indepFrame = true ↔ t.fdResult.newFrame = true ∧ t.fdResult.frameType = 2) ∧
        (t.fdResult.newFrame = true → t.fdH264.gotAud = false ∧ t.fdH264.gotSps = true)) ∧
      (s.fdCfg.kind ≠ .h264 → t.fdH264 = s.fdH264 ∧ t.fdLog2mfn = s.fdLog2mfn)

/-- R197, R198, R200: the MPEG-2 parser on an accepted packet: it stops at the first picture start code at or after the
scan start, reading its type from the packet and the lookahead list; without one the scanner has the last four bytes. -/
def Obligations.Mpeg2FirstPicture : Prop :=
  ∀ s t : State, packetReady s → accepted s → s.fdCfg.kind = .mpeg2 → exec .fdPacket s = .next t →
    (∀ pos, scans s pos → scannerAt s pos = 0x100 → (∀ q < pos, scans s q → scannerAt s q ≠ 0x100) →
      t.fdResult.newFrame = true ∧ t.fdResult.frameType.toNat = ((headerBytes s pos).getD 1 0).toNat / 8 % 8 ∧
        (t.fdResult.indepFrame = true ↔ t.fdResult.frameType.toNat = 1) ∧ t.fdResult.startOff.toNat = pos ∧ t.fdScanner.toNat = 0x100) ∧
    ((∀ pos, scans s pos → scannerAt s pos ≠ 0x100) →
      t.fdResult.newFrame = false ∧ t.fdResult.frameType = 0 ∧ t.fdResult.startOff = 0 ∧
        t.fdScanner.toNat = scannerEnd s)

/-- R199: the lookahead list holds the payloads of the stream's packets that follow, up to the first that ends it. -/
def Obligations.LookaheadList : Prop :=
  ∀ (s : State) (K : Nat), 1 ≤ K → (∀ k, 1 ≤ k → k < K → ¬endsLookahead s k) → endsLookahead s K →
    lookahead s.inputView s.fdCfg.pid = ((List.range (K - 1)).map (· + 1)).flatMap (lookaheadPart s)

/-- R193, R202, R205: an H.264 packet whose scan comes to the packet's end: the zero result record, and the registers as the
scan left them. So it is of a packet whose NAL units are all passed over or delimiters (no SPS, and no slice after an AUD
and an SPS): GOT_AUD set by a delimiter, the scanner at the packet's end. -/
def Obligations.H264PassesOver : Prop :=
  ∀ s t : State, packetReady s → accepted s → s.fdCfg.kind = .h264 → exec .fdPacket s = .next t →
    ((∀ pos, ¬(firstRead s pos ∧
        (nalType s pos = 7 ∨ ((nalType s pos = 1 ∨ nalType s pos = 5) ∧ audBefore s pos ∧ s.fdH264.gotSps = true)))) →
      t.fdResult = noResult ∧ (t.fdH264.gotAud = true ↔ audBefore s 188) ∧
        t.fdH264 = { s.fdH264 with gotAud := t.fdH264.gotAud } ∧ t.fdLog2mfn = s.fdLog2mfn ∧
        t.fdScanner.toNat = scannerEnd s) ∧
    ∀ a, H264Reaches s a → 188 ≤ a.pos →
      t.fdResult = noResult ∧ t.fdH264 = a.flags ∧ t.fdLog2mfn = a.log2mfn ∧ t.fdScanner.toNat = a.scanner

/-- R202, R208, R209: the H.264 parser classifies the first slice it meets after an AUD and an SPS, an SPS of the same packet
included, whatever bits follow it (overflowing codes and the zeros past the data too), and clears GOT_AUD. Where the bits
begin with those of a slice header, the fields are the header's. -/
def Obligations.H264SliceClassified : Prop :=
  ∀ s t : State, packetReady s → accepted s → s.fdCfg.kind = .h264 → exec .fdPacket s = .next t →
    (∀ a, H264Reaches s a → a.nal s → a.classifies s →
      ∀ sliceType fieldPic bottom,
        sliceOf a.flags a.log2mfn (headerBits s a.pos) = (sliceType, fieldPic, bottom) →
        t.fdResult =
          { newFrame := !(fieldPic && bottom), indepFrame := !(fieldPic && bottom) && decide (sliceType % 5 = 2)
            frameType := BitVec.ofNat 3 (sliceType % 5), fieldPic := fieldPic, bottomField := bottom
            startOff := BitVec.ofNat 8 a.pos } ∧
        t.fdH264 = { a.flags with gotAud := false } ∧ t.fdLog2mfn = a.log2mfn ∧ t.fdScanner.toNat = a.next s) ∧
    (∀ (pos : Nat) (x : SliceSyntax), firstRead s pos → (nalType s pos = 1 ∨ nalType s pos = 5) → audBefore s pos →
      s.fdH264.gotSps = true → x.ok s.fdH264 s.fdLog2mfn → beginsWith (headerBits s pos) (x.bits s.fdH264) →
      t.fdResult.newFrame = !(x.fieldPic && x.bottomField) ∧
        (t.fdResult.indepFrame = true ↔ t.fdResult.newFrame = true ∧ x.sliceType % 5 = 2) ∧
        t.fdResult.frameType.toNat = x.sliceType % 5 ∧ t.fdResult.fieldPic = x.fieldPic ∧
        t.fdResult.bottomField = x.bottomField ∧ t.fdResult.startOff.toNat = pos ∧
        t.fdH264 = { s.fdH264 with gotAud := false } ∧ t.fdLog2mfn = s.fdLog2mfn ∧
        t.fdScanner.toNat = scannerAt s pos) ∧
    ∀ (h : FdH264) (m : Word) (x : SliceSyntax) (l : List Bool), x.ok h m → beginsWith l (x.bits h) →
      sliceOf h m l = (x.sliceType, x.fieldPic, x.bottomField)

/-- R206, R207: reading an SPS gives back the fields it was written with, whatever the profile, chroma fields, scaling
lists and picture order count type, zeros following its bits. If the packet has them all, the reader stands right after the
last byte fetched for them and has not left the packet (R199); otherwise it has. -/
def Obligations.SpsFieldsRead : Prop :=
  ∀ (s : State) (pos : Nat) (x : SpsSyntax), pos < 188 → x.ok → beginsWith (headerBits s pos) x.bits →
    (spsReadAt s pos).1 =
      { sepColourPlane := x.sepColour, log2mfn := BitVec.ofNat 32 (min (x.log2mfnMinus4 + 4) 0xFFFFFFFF)
        frameMbsOnly := x.frameMbsOnly } ∧
    (x.bits.length ≤ 8 * (withoutEscapes 0 (packetAfter s pos)).length →
      (spsReadAt s pos).2.src.left = false ∧
        (spsReadAt s pos).2.src.pos = pos + 1 + fetchedFor ((x.bits.length + 7) / 8) 0 (packetAfter s pos)) ∧
    (8 * (withoutEscapes 0 (packetAfter s pos)).length < x.bits.length → (spsReadAt s pos).2.src.left = true)

/-- R202, R206: an SPS the H.264 scan meets sets GOT_SPS and is recorded. If it runs past the packet the scan ends there
with no frame; if it ends inside, its fields stand at the packet's end unless the scan, which goes on where its reader
stands (H264Reaches), meets a later SPS. -/
def Obligations.H264SpsRecorded : Prop :=
  ∀ (s t : State) (p : SpsFields) (H : Reader HeaderSource), packetReady s → accepted s → s.fdCfg.kind = .h264 →
    exec .fdPacket s = .next t →
    (∀ a, H264Reaches s a → a.nal s → nalType s a.pos = 7 → spsReadAt s a.pos = (p, H) →
      t.fdH264.gotSps = true ∧ a.pos < H.src.pos ∧ H.src.pos ≤ 188 ∧
        (H.src.left = true ∨ (∀ b, H264Reaches s b → H.src.pos ≤ b.pos → b.nal s → nalType s b.pos ≠ 7) →
          t.fdH264.frameMbsOnly = p.frameMbsOnly ∧ t.fdH264.sepColourPlane = p.sepColourPlane ∧
            t.fdLog2mfn = p.log2mfn) ∧
        (H.src.left = true →
          t.fdResult = noResult ∧ t.fdH264.gotAud = a.flags.gotAud ∧ t.fdScanner.toNat = a.next s)) ∧
    ∀ pos, firstRead s pos → nalType s pos = 7 → spsReadAt s pos = (p, H) →
      t.fdH264.gotSps = true ∧
        (H.src.left = true →
          t.fdH264.frameMbsOnly = p.frameMbsOnly ∧ t.fdH264.sepColourPlane = p.sepColourPlane ∧
            (t.fdH264.gotAud = true ↔ audBefore s pos) ∧ t.fdLog2mfn = p.log2mfn ∧ t.fdResult = noResult ∧
            t.fdScanner.toNat = scannerAt s pos)

/-- R209: past the end of its data a header reader gives 0 bits, overflowing ue and se; stopping the two repeats there, as
the model does (entry 10), changes no field, nor where the scan goes on. -/
def Obligations.EarlyStopChangesNothing : Prop :=
  (∀ (V : View) (r : Reader HeaderSource), r.bits.pastEnd = true → r.bits.cur = 0 → 188 ≤ r.src.pos →
    r.src.ahead = [] →
    (getBit (headerNext V) r).1 = false ∧ (readUe (headerNext V) r).1 = (0xFFFFFFFF, true) ∧
      (readSe (headerNext V) r).1 = (-2 ^ 31, true)) ∧
  ∀ (V : View) (pos : Nat) (ahead : List Byte),
    (∀ (h : FdH264) (m : Word),
      (readSlice (headerNext V) h m (headerReader pos ahead false)).1 =
        (readWholeSlice (headerNext V) h m (headerReader pos ahead false)).1) ∧
    (readSps (headerNext V) (headerReader pos ahead false)).1 =
      (readWholeSps (headerNext V) (headerReader pos ahead false)).1 ∧
    (readSps (headerNext V) (headerReader pos ahead false)).2.src =
      (readWholeSps (headerNext V) (headerReader pos ahead false)).2.src

/-- R211, R212: the two flags, and the sample taken of an accepted packet. -/
def Obligations.PtsSampling : Prop :=
  ∀ s t : State, packetReady s → accepted s → exec .fdPacket s = .next t →
    (t.fdRate.iframeSeen = true ↔
      s.fdRate.iframeSeen = true ∨ (t.fdResult.newFrame = true ∧ t.fdResult.indepFrame = true)) ∧
    (t.fdRate.fieldCoded = true ↔ s.fdRate.fieldCoded = true ∨ t.fdResult.fieldPic = true) ∧
    (¬sampling s t →
      t.fdSamples = s.fdSamples ∧ t.fdDuration = s.fdDuration ∧ t.fdRate.synced = s.fdRate.synced ∧
        t.fdRate.rateCode = s.fdRate.rateCode) ∧
    (sampling s t → ∀ p, p = stampAt s (offAt s 0 + 9) →
      (∀ last, s.fdSamples.getLast? = some last → wrapped last.toNat p → t.fdSamples.map (·.toNat) = [p]) ∧
      ((∀ last, s.fdSamples.getLast? = some last → ¬wrapped last.toNat p) →
        t.fdSamples.map (·.toNat) = s.fdSamples.map (·.toNat) ++ [p]) ∧
      (t.fdRate.synced = true ↔ t.fdSamples.length = s.params.ptsWindow) ∧
      (t.fdRate.synced = false → t.fdDuration = s.fdDuration ∧ t.fdRate.rateCode = s.fdRate.rateCode))

/-- R213, R214: the packet that decides the rate takes the least of the most frequent deltas of the sorted window and maps
it. An audio delta that does not fit FD_DURATION leaves a free value there (entry 7): nothing is said of it. -/
def Obligations.RateDecision : Prop :=
  ∀ (s t : State) (S : List Nat), s.fdRate.synced = false → exec .fdPacket s = .next t → t.fdRate.synced = true →
    S.Perm (t.fdSamples.map (·.toNat)) → S.Pairwise (· ≤ ·) →
    t.fdSamples.length = s.params.ptsWindow ∧
    (deltasOf S = [] → t.fdDuration = s.fdDefdur ∧ t.fdRate.rateCode = .defaultUsed) ∧
    (∀ d, isMode (deltasOf S) d →
      t.fdRate.rateCode = (rateOf s.fdCfg.kind s.fdDefdur.toNat d).1 ∧
        ((rateOf s.fdCfg.kind s.fdDefdur.toNat d).2 < 2 ^ 32 →
          t.fdDuration.toNat = (rateOf s.fdCfg.kind s.fdDefdur.toNat d).2))

/-- R215: an accepted MPEG-2 packet's outcome depends only on the scanner before it and the view; a sequence that starts
with a payload start gives the same outcomes fed twice. -/
def Obligations.GopFedTwice : Prop :=
  (∀ s s' t t' : State, packetReady s → accepted s → packetReady s' → s.fdCfg = s'.fdCfg → s.fdCfg.kind = .mpeg2 →
    s.len = s'.len → (∀ i, byteAt s i = byteAt s' i) → s.fdScanner = s'.fdScanner → exec .fdPacket s = .next t →
    exec .fdPacket s' = .next t' →
    t.status.newFrame = t'.status.newFrame ∧ t.status.indepFrame = t'.status.indepFrame) ∧
  ∀ (s : State) (a l : Word) (ps : List (Word × Word)), s.fdCfg.kind = .mpeg2 →
    packetReady { s with addr := a, len := l } → accepted { s with addr := a, len := l } →
    pusiAt { s with addr := a, len := l } 0 = true →
    (feed ((a, l) :: ps) s).1 = (feed ((a, l) :: ps) (feed ((a, l) :: ps) s).2).1

/-! ## The invariant -/

/-- The invariant of Safety.lean holds after reset, for every legal unit. -/
def Obligations.InvariantAtReset : Prop :=
  (∀ p : Params, p.legal = true → (State.resetWith p).Inv) ∧ State.reset.Inv

/-- The invariant of Safety.lean is kept by every step, whatever the host does. -/
def Obligations.InvariantKept : Prop := ∀ s t : State, s.Inv → step s = .next t → t.Inv
end

