-- ==== Sys2Proof/Laws/State.lean ====
section
/-! SUPPORT. One lemma per field per named update of State, so that no later proof unfolds a record update. -/

namespace Sys2Proof.Machine

variable (s : State)

/-! ## beginCommand -/

@[simp] theorem State.beginCommand_params (w : Word) : (s.beginCommand w).params = s.params := rfl
@[simp] theorem State.beginCommand_cmd (w : Word) : (s.beginCommand w).cmd = w := rfl
@[simp] theorem State.beginCommand_status (w : Word) : (s.beginCommand w).status = s.status.clearTransient := rfl
@[simp] theorem State.beginCommand_addr (w : Word) : (s.beginCommand w).addr = s.addr := rfl
@[simp] theorem State.beginCommand_len (w : Word) : (s.beginCommand w).len = s.len := rfl
@[simp] theorem State.beginCommand_opa (w : Word) : (s.beginCommand w).opa = s.opa := rfl
@[simp] theorem State.beginCommand_opb (w : Word) : (s.beginCommand w).opb = s.opb := rfl
@[simp] theorem State.beginCommand_res0 (w : Word) : (s.beginCommand w).res0 = s.res0 := rfl
@[simp] theorem State.beginCommand_res1 (w : Word) : (s.beginCommand w).res1 = s.res1 := rfl
@[simp] theorem State.beginCommand_crc (w : Word) : (s.beginCommand w).crc = s.crc := rfl
@[simp] theorem State.beginCommand_brBase (w : Word) : (s.beginCommand w).brBase = s.brBase := rfl
@[simp] theorem State.beginCommand_brLen (w : Word) : (s.beginCommand w).brLen = s.brLen := rfl
@[simp] theorem State.beginCommand_brIdx (w : Word) : (s.beginCommand w).brIdx = s.brIdx := rfl
@[simp] theorem State.beginCommand_brState (w : Word) : (s.beginCommand w).brState = s.brState := rfl
@[simp] theorem State.beginCommand_fdCfg (w : Word) : (s.beginCommand w).fdCfg = s.fdCfg := rfl
@[simp] theorem State.beginCommand_fdScanner (w : Word) : (s.beginCommand w).fdScanner = s.fdScanner := rfl
@[simp] theorem State.beginCommand_fdH264 (w : Word) : (s.beginCommand w).fdH264 = s.fdH264 := rfl
@[simp] theorem State.beginCommand_fdLog2mfn (w : Word) : (s.beginCommand w).fdLog2mfn = s.fdLog2mfn := rfl
@[simp] theorem State.beginCommand_fdResult (w : Word) : (s.beginCommand w).fdResult = s.fdResult := rfl
@[simp] theorem State.beginCommand_fdRate (w : Word) : (s.beginCommand w).fdRate = s.fdRate := rfl
@[simp] theorem State.beginCommand_fdDuration (w : Word) : (s.beginCommand w).fdDuration = s.fdDuration := rfl
@[simp] theorem State.beginCommand_fdSamples (w : Word) : (s.beginCommand w).fdSamples = s.fdSamples := rfl
@[simp] theorem State.beginCommand_fdDefdur (w : Word) : (s.beginCommand w).fdDefdur = s.fdDefdur := rfl
@[simp] theorem State.beginCommand_mem (w : Word) : (s.beginCommand w).mem = s.mem := rfl
@[simp] theorem State.beginCommand_powerCycle (w : Word) : (s.beginCommand w).powerCycle = s.powerCycle := rfl
@[simp] theorem State.beginCommand_freeCount (w : Word) : (s.beginCommand w).freeCount = s.freeCount := rfl
@[simp] theorem State.beginCommand_host (w : Word) : (s.beginCommand w).host = s.host := rfl
@[simp] theorem State.beginCommand_hostReply (w : Word) : (s.beginCommand w).hostReply = s.hostReply := rfl

/-! ## raise -/

@[simp] theorem State.raise_params (e : ErrCode) : (s.raise e).params = s.params := rfl
@[simp] theorem State.raise_cmd (e : ErrCode) : (s.raise e).cmd = s.cmd := rfl
@[simp] theorem State.raise_status (e : ErrCode) : (s.raise e).status = { s.status with err := e, stickyErr := true } := rfl
@[simp] theorem State.raise_addr (e : ErrCode) : (s.raise e).addr = s.addr := rfl
@[simp] theorem State.raise_len (e : ErrCode) : (s.raise e).len = s.len := rfl
@[simp] theorem State.raise_opa (e : ErrCode) : (s.raise e).opa = s.opa := rfl
@[simp] theorem State.raise_opb (e : ErrCode) : (s.raise e).opb = s.opb := rfl
@[simp] theorem State.raise_res0 (e : ErrCode) : (s.raise e).res0 = s.res0 := rfl
@[simp] theorem State.raise_res1 (e : ErrCode) : (s.raise e).res1 = s.res1 := rfl
@[simp] theorem State.raise_crc (e : ErrCode) : (s.raise e).crc = s.crc := rfl
@[simp] theorem State.raise_brBase (e : ErrCode) : (s.raise e).brBase = s.brBase := rfl
@[simp] theorem State.raise_brLen (e : ErrCode) : (s.raise e).brLen = s.brLen := rfl
@[simp] theorem State.raise_brIdx (e : ErrCode) : (s.raise e).brIdx = s.brIdx := rfl
@[simp] theorem State.raise_brState (e : ErrCode) : (s.raise e).brState = s.brState := rfl
@[simp] theorem State.raise_fdCfg (e : ErrCode) : (s.raise e).fdCfg = s.fdCfg := rfl
@[simp] theorem State.raise_fdScanner (e : ErrCode) : (s.raise e).fdScanner = s.fdScanner := rfl
@[simp] theorem State.raise_fdH264 (e : ErrCode) : (s.raise e).fdH264 = s.fdH264 := rfl
@[simp] theorem State.raise_fdLog2mfn (e : ErrCode) : (s.raise e).fdLog2mfn = s.fdLog2mfn := rfl
@[simp] theorem State.raise_fdResult (e : ErrCode) : (s.raise e).fdResult = s.fdResult := rfl
@[simp] theorem State.raise_fdRate (e : ErrCode) : (s.raise e).fdRate = s.fdRate := rfl
@[simp] theorem State.raise_fdDuration (e : ErrCode) : (s.raise e).fdDuration = s.fdDuration := rfl
@[simp] theorem State.raise_fdSamples (e : ErrCode) : (s.raise e).fdSamples = s.fdSamples := rfl
@[simp] theorem State.raise_fdDefdur (e : ErrCode) : (s.raise e).fdDefdur = s.fdDefdur := rfl
@[simp] theorem State.raise_mem (e : ErrCode) : (s.raise e).mem = s.mem := rfl
@[simp] theorem State.raise_powerCycle (e : ErrCode) : (s.raise e).powerCycle = s.powerCycle := rfl
@[simp] theorem State.raise_freeCount (e : ErrCode) : (s.raise e).freeCount = s.freeCount := rfl
@[simp] theorem State.raise_host (e : ErrCode) : (s.raise e).host = s.host := rfl
@[simp] theorem State.raise_hostReply (e : ErrCode) : (s.raise e).hostReply = s.hostReply := rfl

/-! ## setByte -/

@[simp] theorem State.setByte_params (a : Nat) (v : Byte) : (s.setByte a v).params = s.params := rfl
@[simp] theorem State.setByte_cmd (a : Nat) (v : Byte) : (s.setByte a v).cmd = s.cmd := rfl
@[simp] theorem State.setByte_status (a : Nat) (v : Byte) : (s.setByte a v).status = s.status := rfl
@[simp] theorem State.setByte_addr (a : Nat) (v : Byte) : (s.setByte a v).addr = s.addr := rfl
@[simp] theorem State.setByte_len (a : Nat) (v : Byte) : (s.setByte a v).len = s.len := rfl
@[simp] theorem State.setByte_opa (a : Nat) (v : Byte) : (s.setByte a v).opa = s.opa := rfl
@[simp] theorem State.setByte_opb (a : Nat) (v : Byte) : (s.setByte a v).opb = s.opb := rfl
@[simp] theorem State.setByte_res0 (a : Nat) (v : Byte) : (s.setByte a v).res0 = s.res0 := rfl
@[simp] theorem State.setByte_res1 (a : Nat) (v : Byte) : (s.setByte a v).res1 = s.res1 := rfl
@[simp] theorem State.setByte_crc (a : Nat) (v : Byte) : (s.setByte a v).crc = s.crc := rfl
@[simp] theorem State.setByte_brBase (a : Nat) (v : Byte) : (s.setByte a v).brBase = s.brBase := rfl
@[simp] theorem State.setByte_brLen (a : Nat) (v : Byte) : (s.setByte a v).brLen = s.brLen := rfl
@[simp] theorem State.setByte_brIdx (a : Nat) (v : Byte) : (s.setByte a v).brIdx = s.brIdx := rfl
@[simp] theorem State.setByte_brState (a : Nat) (v : Byte) : (s.setByte a v).brState = s.brState := rfl
@[simp] theorem State.setByte_fdCfg (a : Nat) (v : Byte) : (s.setByte a v).fdCfg = s.fdCfg := rfl
@[simp] theorem State.setByte_fdScanner (a : Nat) (v : Byte) : (s.setByte a v).fdScanner = s.fdScanner := rfl
@[simp] theorem State.setByte_fdH264 (a : Nat) (v : Byte) : (s.setByte a v).fdH264 = s.fdH264 := rfl
@[simp] theorem State.setByte_fdLog2mfn (a : Nat) (v : Byte) : (s.setByte a v).fdLog2mfn = s.fdLog2mfn := rfl
@[simp] theorem State.setByte_fdResult (a : Nat) (v : Byte) : (s.setByte a v).fdResult = s.fdResult := rfl
@[simp] theorem State.setByte_fdRate (a : Nat) (v : Byte) : (s.setByte a v).fdRate = s.fdRate := rfl
@[simp] theorem State.setByte_fdDuration (a : Nat) (v : Byte) : (s.setByte a v).fdDuration = s.fdDuration := rfl
@[simp] theorem State.setByte_fdSamples (a : Nat) (v : Byte) : (s.setByte a v).fdSamples = s.fdSamples := rfl
@[simp] theorem State.setByte_fdDefdur (a : Nat) (v : Byte) : (s.setByte a v).fdDefdur = s.fdDefdur := rfl
@[simp] theorem State.setByte_mem (a : Nat) (v : Byte) : (s.setByte a v).mem = Memory.write s.mem a v := rfl
@[simp] theorem State.setByte_powerCycle (a : Nat) (v : Byte) : (s.setByte a v).powerCycle = s.powerCycle := rfl
@[simp] theorem State.setByte_freeCount (a : Nat) (v : Byte) : (s.setByte a v).freeCount = s.freeCount := rfl
@[simp] theorem State.setByte_host (a : Nat) (v : Byte) : (s.setByte a v).host = s.host := rfl
@[simp] theorem State.setByte_hostReply (a : Nat) (v : Byte) : (s.setByte a v).hostReply = s.hostReply := rfl

/-! ## reportValid -/

@[simp] theorem State.reportValid_params (v : Bool) : (s.reportValid v).params = s.params := rfl
@[simp] theorem State.reportValid_cmd (v : Bool) : (s.reportValid v).cmd = s.cmd := rfl
@[simp] theorem State.reportValid_status (v : Bool) : (s.reportValid v).status = { s.status with valid := v } := rfl
@[simp] theorem State.reportValid_addr (v : Bool) : (s.reportValid v).addr = s.addr := rfl
@[simp] theorem State.reportValid_len (v : Bool) : (s.reportValid v).len = s.len := rfl
@[simp] theorem State.reportValid_opa (v : Bool) : (s.reportValid v).opa = s.opa := rfl
@[simp] theorem State.reportValid_opb (v : Bool) : (s.reportValid v).opb = s.opb := rfl
@[simp] theorem State.reportValid_res0 (v : Bool) : (s.reportValid v).res0 = s.res0 := rfl
@[simp] theorem State.reportValid_res1 (v : Bool) : (s.reportValid v).res1 = s.res1 := rfl
@[simp] theorem State.reportValid_crc (v : Bool) : (s.reportValid v).crc = s.crc := rfl
@[simp] theorem State.reportValid_brBase (v : Bool) : (s.reportValid v).brBase = s.brBase := rfl
@[simp] theorem State.reportValid_brLen (v : Bool) : (s.reportValid v).brLen = s.brLen := rfl
@[simp] theorem State.reportValid_brIdx (v : Bool) : (s.reportValid v).brIdx = s.brIdx := rfl
@[simp] theorem State.reportValid_brState (v : Bool) : (s.reportValid v).brState = s.brState := rfl
@[simp] theorem State.reportValid_fdCfg (v : Bool) : (s.reportValid v).fdCfg = s.fdCfg := rfl
@[simp] theorem State.reportValid_fdScanner (v : Bool) : (s.reportValid v).fdScanner = s.fdScanner := rfl
@[simp] theorem State.reportValid_fdH264 (v : Bool) : (s.reportValid v).fdH264 = s.fdH264 := rfl
@[simp] theorem State.reportValid_fdLog2mfn (v : Bool) : (s.reportValid v).fdLog2mfn = s.fdLog2mfn := rfl
@[simp] theorem State.reportValid_fdResult (v : Bool) : (s.reportValid v).fdResult = s.fdResult := rfl
@[simp] theorem State.reportValid_fdRate (v : Bool) : (s.reportValid v).fdRate = s.fdRate := rfl
@[simp] theorem State.reportValid_fdDuration (v : Bool) : (s.reportValid v).fdDuration = s.fdDuration := rfl
@[simp] theorem State.reportValid_fdSamples (v : Bool) : (s.reportValid v).fdSamples = s.fdSamples := rfl
@[simp] theorem State.reportValid_fdDefdur (v : Bool) : (s.reportValid v).fdDefdur = s.fdDefdur := rfl
@[simp] theorem State.reportValid_mem (v : Bool) : (s.reportValid v).mem = s.mem := rfl
@[simp] theorem State.reportValid_powerCycle (v : Bool) : (s.reportValid v).powerCycle = s.powerCycle := rfl
@[simp] theorem State.reportValid_freeCount (v : Bool) : (s.reportValid v).freeCount = s.freeCount := rfl
@[simp] theorem State.reportValid_host (v : Bool) : (s.reportValid v).host = s.host := rfl
@[simp] theorem State.reportValid_hostReply (v : Bool) : (s.reportValid v).hostReply = s.hostReply := rfl

/-! ## reportNeedMore -/

@[simp] theorem State.reportNeedMore_params (v : Bool) : (s.reportNeedMore v).params = s.params := rfl
@[simp] theorem State.reportNeedMore_cmd (v : Bool) : (s.reportNeedMore v).cmd = s.cmd := rfl
@[simp] theorem State.reportNeedMore_status (v : Bool) : (s.reportNeedMore v).status = { s.status with needMore := v } := rfl
@[simp] theorem State.reportNeedMore_addr (v : Bool) : (s.reportNeedMore v).addr = s.addr := rfl
@[simp] theorem State.reportNeedMore_len (v : Bool) : (s.reportNeedMore v).len = s.len := rfl
@[simp] theorem State.reportNeedMore_opa (v : Bool) : (s.reportNeedMore v).opa = s.opa := rfl
@[simp] theorem State.reportNeedMore_opb (v : Bool) : (s.reportNeedMore v).opb = s.opb := rfl
@[simp] theorem State.reportNeedMore_res0 (v : Bool) : (s.reportNeedMore v).res0 = s.res0 := rfl
@[simp] theorem State.reportNeedMore_res1 (v : Bool) : (s.reportNeedMore v).res1 = s.res1 := rfl
@[simp] theorem State.reportNeedMore_crc (v : Bool) : (s.reportNeedMore v).crc = s.crc := rfl
@[simp] theorem State.reportNeedMore_brBase (v : Bool) : (s.reportNeedMore v).brBase = s.brBase := rfl
@[simp] theorem State.reportNeedMore_brLen (v : Bool) : (s.reportNeedMore v).brLen = s.brLen := rfl
@[simp] theorem State.reportNeedMore_brIdx (v : Bool) : (s.reportNeedMore v).brIdx = s.brIdx := rfl
@[simp] theorem State.reportNeedMore_brState (v : Bool) : (s.reportNeedMore v).brState = s.brState := rfl
@[simp] theorem State.reportNeedMore_fdCfg (v : Bool) : (s.reportNeedMore v).fdCfg = s.fdCfg := rfl
@[simp] theorem State.reportNeedMore_fdScanner (v : Bool) : (s.reportNeedMore v).fdScanner = s.fdScanner := rfl
@[simp] theorem State.reportNeedMore_fdH264 (v : Bool) : (s.reportNeedMore v).fdH264 = s.fdH264 := rfl
@[simp] theorem State.reportNeedMore_fdLog2mfn (v : Bool) : (s.reportNeedMore v).fdLog2mfn = s.fdLog2mfn := rfl
@[simp] theorem State.reportNeedMore_fdResult (v : Bool) : (s.reportNeedMore v).fdResult = s.fdResult := rfl
@[simp] theorem State.reportNeedMore_fdRate (v : Bool) : (s.reportNeedMore v).fdRate = s.fdRate := rfl
@[simp] theorem State.reportNeedMore_fdDuration (v : Bool) : (s.reportNeedMore v).fdDuration = s.fdDuration := rfl
@[simp] theorem State.reportNeedMore_fdSamples (v : Bool) : (s.reportNeedMore v).fdSamples = s.fdSamples := rfl
@[simp] theorem State.reportNeedMore_fdDefdur (v : Bool) : (s.reportNeedMore v).fdDefdur = s.fdDefdur := rfl
@[simp] theorem State.reportNeedMore_mem (v : Bool) : (s.reportNeedMore v).mem = s.mem := rfl
@[simp] theorem State.reportNeedMore_powerCycle (v : Bool) : (s.reportNeedMore v).powerCycle = s.powerCycle := rfl
@[simp] theorem State.reportNeedMore_freeCount (v : Bool) : (s.reportNeedMore v).freeCount = s.freeCount := rfl
@[simp] theorem State.reportNeedMore_host (v : Bool) : (s.reportNeedMore v).host = s.host := rfl
@[simp] theorem State.reportNeedMore_hostReply (v : Bool) : (s.reportNeedMore v).hostReply = s.hostReply := rfl

/-! ## reportMalformed -/

@[simp] theorem State.reportMalformed_params (v : Bool) : (s.reportMalformed v).params = s.params := rfl
@[simp] theorem State.reportMalformed_cmd (v : Bool) : (s.reportMalformed v).cmd = s.cmd := rfl
@[simp] theorem State.reportMalformed_status (v : Bool) : (s.reportMalformed v).status = { s.status with malformed := v } := rfl
@[simp] theorem State.reportMalformed_addr (v : Bool) : (s.reportMalformed v).addr = s.addr := rfl
@[simp] theorem State.reportMalformed_len (v : Bool) : (s.reportMalformed v).len = s.len := rfl
@[simp] theorem State.reportMalformed_opa (v : Bool) : (s.reportMalformed v).opa = s.opa := rfl
@[simp] theorem State.reportMalformed_opb (v : Bool) : (s.reportMalformed v).opb = s.opb := rfl
@[simp] theorem State.reportMalformed_res0 (v : Bool) : (s.reportMalformed v).res0 = s.res0 := rfl
@[simp] theorem State.reportMalformed_res1 (v : Bool) : (s.reportMalformed v).res1 = s.res1 := rfl
@[simp] theorem State.reportMalformed_crc (v : Bool) : (s.reportMalformed v).crc = s.crc := rfl
@[simp] theorem State.reportMalformed_brBase (v : Bool) : (s.reportMalformed v).brBase = s.brBase := rfl
@[simp] theorem State.reportMalformed_brLen (v : Bool) : (s.reportMalformed v).brLen = s.brLen := rfl
@[simp] theorem State.reportMalformed_brIdx (v : Bool) : (s.reportMalformed v).brIdx = s.brIdx := rfl
@[simp] theorem State.reportMalformed_brState (v : Bool) : (s.reportMalformed v).brState = s.brState := rfl
@[simp] theorem State.reportMalformed_fdCfg (v : Bool) : (s.reportMalformed v).fdCfg = s.fdCfg := rfl
@[simp] theorem State.reportMalformed_fdScanner (v : Bool) : (s.reportMalformed v).fdScanner = s.fdScanner := rfl
@[simp] theorem State.reportMalformed_fdH264 (v : Bool) : (s.reportMalformed v).fdH264 = s.fdH264 := rfl
@[simp] theorem State.reportMalformed_fdLog2mfn (v : Bool) : (s.reportMalformed v).fdLog2mfn = s.fdLog2mfn := rfl
@[simp] theorem State.reportMalformed_fdResult (v : Bool) : (s.reportMalformed v).fdResult = s.fdResult := rfl
@[simp] theorem State.reportMalformed_fdRate (v : Bool) : (s.reportMalformed v).fdRate = s.fdRate := rfl
@[simp] theorem State.reportMalformed_fdDuration (v : Bool) : (s.reportMalformed v).fdDuration = s.fdDuration := rfl
@[simp] theorem State.reportMalformed_fdSamples (v : Bool) : (s.reportMalformed v).fdSamples = s.fdSamples := rfl
@[simp] theorem State.reportMalformed_fdDefdur (v : Bool) : (s.reportMalformed v).fdDefdur = s.fdDefdur := rfl
@[simp] theorem State.reportMalformed_mem (v : Bool) : (s.reportMalformed v).mem = s.mem := rfl
@[simp] theorem State.reportMalformed_powerCycle (v : Bool) : (s.reportMalformed v).powerCycle = s.powerCycle := rfl
@[simp] theorem State.reportMalformed_freeCount (v : Bool) : (s.reportMalformed v).freeCount = s.freeCount := rfl
@[simp] theorem State.reportMalformed_host (v : Bool) : (s.reportMalformed v).host = s.host := rfl
@[simp] theorem State.reportMalformed_hostReply (v : Bool) : (s.reportMalformed v).hostReply = s.hostReply := rfl

/-! ## busError -/

@[simp] theorem State.busError_params : s.busError.params = s.params := rfl
@[simp] theorem State.busError_cmd : s.busError.cmd = s.cmd := rfl
@[simp] theorem State.busError_status : s.busError.status = { s.status with busErr := true } := rfl
@[simp] theorem State.busError_addr : s.busError.addr = s.addr := rfl
@[simp] theorem State.busError_len : s.busError.len = s.len := rfl
@[simp] theorem State.busError_opa : s.busError.opa = s.opa := rfl
@[simp] theorem State.busError_opb : s.busError.opb = s.opb := rfl
@[simp] theorem State.busError_res0 : s.busError.res0 = s.res0 := rfl
@[simp] theorem State.busError_res1 : s.busError.res1 = s.res1 := rfl
@[simp] theorem State.busError_crc : s.busError.crc = s.crc := rfl
@[simp] theorem State.busError_brBase : s.busError.brBase = s.brBase := rfl
@[simp] theorem State.busError_brLen : s.busError.brLen = s.brLen := rfl
@[simp] theorem State.busError_brIdx : s.busError.brIdx = s.brIdx := rfl
@[simp] theorem State.busError_brState : s.busError.brState = s.brState := rfl
@[simp] theorem State.busError_fdCfg : s.busError.fdCfg = s.fdCfg := rfl
@[simp] theorem State.busError_fdScanner : s.busError.fdScanner = s.fdScanner := rfl
@[simp] theorem State.busError_fdH264 : s.busError.fdH264 = s.fdH264 := rfl
@[simp] theorem State.busError_fdLog2mfn : s.busError.fdLog2mfn = s.fdLog2mfn := rfl
@[simp] theorem State.busError_fdResult : s.busError.fdResult = s.fdResult := rfl
@[simp] theorem State.busError_fdRate : s.busError.fdRate = s.fdRate := rfl
@[simp] theorem State.busError_fdDuration : s.busError.fdDuration = s.fdDuration := rfl
@[simp] theorem State.busError_fdSamples : s.busError.fdSamples = s.fdSamples := rfl
@[simp] theorem State.busError_fdDefdur : s.busError.fdDefdur = s.fdDefdur := rfl
@[simp] theorem State.busError_mem : s.busError.mem = s.mem := rfl
@[simp] theorem State.busError_powerCycle : s.busError.powerCycle = s.powerCycle := rfl
@[simp] theorem State.busError_freeCount : s.busError.freeCount = s.freeCount := rfl
@[simp] theorem State.busError_host : s.busError.host = s.host := rfl
@[simp] theorem State.busError_hostReply : s.busError.hostReply = s.hostReply := rfl

/-! ## endBrRead -/

@[simp] theorem State.endBrRead_params (r : Reader Word) (v : DWord) (ovf : Bool) : (s.endBrRead r v ovf).params = s.params := rfl
@[simp] theorem State.endBrRead_cmd (r : Reader Word) (v : DWord) (ovf : Bool) : (s.endBrRead r v ovf).cmd = s.cmd := rfl
@[simp] theorem State.endBrRead_status (r : Reader Word) (v : DWord) (ovf : Bool) : (s.endBrRead r v ovf).status = s.status.afterBrRead r.bits.pastEnd ovf := rfl
@[simp] theorem State.endBrRead_addr (r : Reader Word) (v : DWord) (ovf : Bool) : (s.endBrRead r v ovf).addr = s.addr := rfl
@[simp] theorem State.endBrRead_len (r : Reader Word) (v : DWord) (ovf : Bool) : (s.endBrRead r v ovf).len = s.len := rfl
@[simp] theorem State.endBrRead_opa (r : Reader Word) (v : DWord) (ovf : Bool) : (s.endBrRead r v ovf).opa = s.opa := rfl
@[simp] theorem State.endBrRead_opb (r : Reader Word) (v : DWord) (ovf : Bool) : (s.endBrRead r v ovf).opb = s.opb := rfl
@[simp] theorem State.endBrRead_res0 (r : Reader Word) (v : DWord) (ovf : Bool) : (s.endBrRead r v ovf).res0 = v := rfl
@[simp] theorem State.endBrRead_res1 (r : Reader Word) (v : DWord) (ovf : Bool) : (s.endBrRead r v ovf).res1 = s.res1 := rfl
@[simp] theorem State.endBrRead_crc (r : Reader Word) (v : DWord) (ovf : Bool) : (s.endBrRead r v ovf).crc = s.crc := rfl
@[simp] theorem State.endBrRead_brBase (r : Reader Word) (v : DWord) (ovf : Bool) : (s.endBrRead r v ovf).brBase = s.brBase := rfl
@[simp] theorem State.endBrRead_brLen (r : Reader Word) (v : DWord) (ovf : Bool) : (s.endBrRead r v ovf).brLen = s.brLen := rfl
@[simp] theorem State.endBrRead_brIdx (r : Reader Word) (v : DWord) (ovf : Bool) : (s.endBrRead r v ovf).brIdx = r.src := rfl
@[simp] theorem State.endBrRead_brState (r : Reader Word) (v : DWord) (ovf : Bool) : (s.endBrRead r v ovf).brState = { s.brState with bits := r.bits } := rfl
@[simp] theorem State.endBrRead_fdCfg (r : Reader Word) (v : DWord) (ovf : Bool) : (s.endBrRead r v ovf).fdCfg = s.fdCfg := rfl
@[simp] theorem State.endBrRead_fdScanner (r : Reader Word) (v : DWord) (ovf : Bool) : (s.endBrRead r v ovf).fdScanner = s.fdScanner := rfl
@[simp] theorem State.endBrRead_fdH264 (r : Reader Word) (v : DWord) (ovf : Bool) : (s.endBrRead r v ovf).fdH264 = s.fdH264 := rfl
@[simp] theorem State.endBrRead_fdLog2mfn (r : Reader Word) (v : DWord) (ovf : Bool) : (s.endBrRead r v ovf).fdLog2mfn = s.fdLog2mfn := rfl
@[simp] theorem State.endBrRead_fdResult (r : Reader Word) (v : DWord) (ovf : Bool) : (s.endBrRead r v ovf).fdResult = s.fdResult := rfl
@[simp] theorem State.endBrRead_fdRate (r : Reader Word) (v : DWord) (ovf : Bool) : (s.endBrRead r v ovf).fdRate = s.fdRate := rfl
@[simp] theorem State.endBrRead_fdDuration (r : Reader Word) (v : DWord) (ovf : Bool) : (s.endBrRead r v ovf).fdDuration = s.fdDuration := rfl
@[simp] theorem State.endBrRead_fdSamples (r : Reader Word) (v : DWord) (ovf : Bool) : (s.endBrRead r v ovf).fdSamples = s.fdSamples := rfl
@[simp] theorem State.endBrRead_fdDefdur (r : Reader Word) (v : DWord) (ovf : Bool) : (s.endBrRead r v ovf).fdDefdur = s.fdDefdur := rfl
@[simp] theorem State.endBrRead_mem (r : Reader Word) (v : DWord) (ovf : Bool) : (s.endBrRead r v ovf).mem = s.mem := rfl
@[simp] theorem State.endBrRead_powerCycle (r : Reader Word) (v : DWord) (ovf : Bool) : (s.endBrRead r v ovf).powerCycle = s.powerCycle := rfl
@[simp] theorem State.endBrRead_freeCount (r : Reader Word) (v : DWord) (ovf : Bool) : (s.endBrRead r v ovf).freeCount = s.freeCount := rfl
@[simp] theorem State.endBrRead_host (r : Reader Word) (v : DWord) (ovf : Bool) : (s.endBrRead r v ovf).host = s.host := rfl
@[simp] theorem State.endBrRead_hostReply (r : Reader Word) (v : DWord) (ovf : Bool) : (s.endBrRead r v ovf).hostReply = s.hostReply := rfl

/-! ## softReset -/

@[simp] theorem State.softReset_params : s.softReset.params = s.params := rfl
@[simp] theorem State.softReset_cmd : s.softReset.cmd = s.cmd := rfl
@[simp] theorem State.softReset_status : s.softReset.status = (State.resetWith s.params).status := rfl
@[simp] theorem State.softReset_addr : s.softReset.addr = (State.resetWith s.params).addr := rfl
@[simp] theorem State.softReset_len : s.softReset.len = (State.resetWith s.params).len := rfl
@[simp] theorem State.softReset_opa : s.softReset.opa = (State.resetWith s.params).opa := rfl
@[simp] theorem State.softReset_opb : s.softReset.opb = (State.resetWith s.params).opb := rfl
@[simp] theorem State.softReset_res0 : s.softReset.res0 = (State.resetWith s.params).res0 := rfl
@[simp] theorem State.softReset_res1 : s.softReset.res1 = (State.resetWith s.params).res1 := rfl
@[simp] theorem State.softReset_crc : s.softReset.crc = (State.resetWith s.params).crc := rfl
@[simp] theorem State.softReset_brBase : s.softReset.brBase = (State.resetWith s.params).brBase := rfl
@[simp] theorem State.softReset_brLen : s.softReset.brLen = (State.resetWith s.params).brLen := rfl
@[simp] theorem State.softReset_brIdx : s.softReset.brIdx = (State.resetWith s.params).brIdx := rfl
@[simp] theorem State.softReset_brState : s.softReset.brState = (State.resetWith s.params).brState := rfl
@[simp] theorem State.softReset_fdCfg : s.softReset.fdCfg = (State.resetWith s.params).fdCfg := rfl
@[simp] theorem State.softReset_fdScanner : s.softReset.fdScanner = (State.resetWith s.params).fdScanner := rfl
@[simp] theorem State.softReset_fdH264 : s.softReset.fdH264 = (State.resetWith s.params).fdH264 := rfl
@[simp] theorem State.softReset_fdLog2mfn : s.softReset.fdLog2mfn = (State.resetWith s.params).fdLog2mfn := rfl
@[simp] theorem State.softReset_fdResult : s.softReset.fdResult = (State.resetWith s.params).fdResult := rfl
@[simp] theorem State.softReset_fdRate : s.softReset.fdRate = (State.resetWith s.params).fdRate := rfl
@[simp] theorem State.softReset_fdDuration : s.softReset.fdDuration = (State.resetWith s.params).fdDuration := rfl
@[simp] theorem State.softReset_fdSamples : s.softReset.fdSamples = (State.resetWith s.params).fdSamples := rfl
@[simp] theorem State.softReset_fdDefdur : s.softReset.fdDefdur = (State.resetWith s.params).fdDefdur := rfl
@[simp] theorem State.softReset_mem : s.softReset.mem = s.mem := rfl
@[simp] theorem State.softReset_powerCycle : s.softReset.powerCycle = s.powerCycle := rfl
@[simp] theorem State.softReset_freeCount : s.softReset.freeCount = s.freeCount := rfl
@[simp] theorem State.softReset_host : s.softReset.host = s.host := rfl
@[simp] theorem State.softReset_hostReply : s.softReset.hostReply = s.hostReply := rfl

/-! ## powerOn -/

@[simp] theorem State.powerOn_params : s.powerOn.params = s.params := rfl
@[simp] theorem State.powerOn_cmd : s.powerOn.cmd = (State.resetWith s.params).cmd := rfl
@[simp] theorem State.powerOn_status : s.powerOn.status = (State.resetWith s.params).status := rfl
@[simp] theorem State.powerOn_addr : s.powerOn.addr = (State.resetWith s.params).addr := rfl
@[simp] theorem State.powerOn_len : s.powerOn.len = (State.resetWith s.params).len := rfl
@[simp] theorem State.powerOn_opa : s.powerOn.opa = (State.resetWith s.params).opa := rfl
@[simp] theorem State.powerOn_opb : s.powerOn.opb = (State.resetWith s.params).opb := rfl
@[simp] theorem State.powerOn_res0 : s.powerOn.res0 = (State.resetWith s.params).res0 := rfl
@[simp] theorem State.powerOn_res1 : s.powerOn.res1 = (State.resetWith s.params).res1 := rfl
@[simp] theorem State.powerOn_crc : s.powerOn.crc = (State.resetWith s.params).crc := rfl
@[simp] theorem State.powerOn_brBase : s.powerOn.brBase = (State.resetWith s.params).brBase := rfl
@[simp] theorem State.powerOn_brLen : s.powerOn.brLen = (State.resetWith s.params).brLen := rfl
@[simp] theorem State.powerOn_brIdx : s.powerOn.brIdx = (State.resetWith s.params).brIdx := rfl
@[simp] theorem State.powerOn_brState : s.powerOn.brState = (State.resetWith s.params).brState := rfl
@[simp] theorem State.powerOn_fdCfg : s.powerOn.fdCfg = (State.resetWith s.params).fdCfg := rfl
@[simp] theorem State.powerOn_fdScanner : s.powerOn.fdScanner = (State.resetWith s.params).fdScanner := rfl
@[simp] theorem State.powerOn_fdH264 : s.powerOn.fdH264 = (State.resetWith s.params).fdH264 := rfl
@[simp] theorem State.powerOn_fdLog2mfn : s.powerOn.fdLog2mfn = (State.resetWith s.params).fdLog2mfn := rfl
@[simp] theorem State.powerOn_fdResult : s.powerOn.fdResult = (State.resetWith s.params).fdResult := rfl
@[simp] theorem State.powerOn_fdRate : s.powerOn.fdRate = (State.resetWith s.params).fdRate := rfl
@[simp] theorem State.powerOn_fdDuration : s.powerOn.fdDuration = (State.resetWith s.params).fdDuration := rfl
@[simp] theorem State.powerOn_fdSamples : s.powerOn.fdSamples = (State.resetWith s.params).fdSamples := rfl
@[simp] theorem State.powerOn_fdDefdur : s.powerOn.fdDefdur = (State.resetWith s.params).fdDefdur := rfl
@[simp] theorem State.powerOn_mem : s.powerOn.mem = (State.resetWith s.params).mem := rfl
@[simp] theorem State.powerOn_powerCycle : s.powerOn.powerCycle = s.powerCycle + 1 := rfl
@[simp] theorem State.powerOn_freeCount : s.powerOn.freeCount = s.freeCount := rfl
@[simp] theorem State.powerOn_host : s.powerOn.host = s.host := rfl
@[simp] theorem State.powerOn_hostReply : s.powerOn.hostReply = s.hostReply := rfl

/-! ## setBytes -/

@[simp] theorem State.setBytes_params (s : State) (a : Nat) (bs : List Byte) : (s.setBytes a bs).params = s.params := by
  induction bs generalizing s a with
  | nil => rfl
  | cons b bs ih => simp [State.setBytes, ih]

@[simp] theorem State.setBytes_cmd (s : State) (a : Nat) (bs : List Byte) : (s.setBytes a bs).cmd = s.cmd := by
  induction bs generalizing s a with
  | nil => rfl
  | cons b bs ih => simp [State.setBytes, ih]

@[simp] theorem State.setBytes_status (s : State) (a : Nat) (bs : List Byte) : (s.setBytes a bs).status = s.status := by
  induction bs generalizing s a with
  | nil => rfl
  | cons b bs ih => simp [State.setBytes, ih]

@[simp] theorem State.setBytes_addr (s : State) (a : Nat) (bs : List Byte) : (s.setBytes a bs).addr = s.addr := by
  induction bs generalizing s a with
  | nil => rfl
  | cons b bs ih => simp [State.setBytes, ih]

@[simp] theorem State.setBytes_len (s : State) (a : Nat) (bs : List Byte) : (s.setBytes a bs).len = s.len := by
  induction bs generalizing s a with
  | nil => rfl
  | cons b bs ih => simp [State.setBytes, ih]

@[simp] theorem State.setBytes_opa (s : State) (a : Nat) (bs : List Byte) : (s.setBytes a bs).opa = s.opa := by
  induction bs generalizing s a with
  | nil => rfl
  | cons b bs ih => simp [State.setBytes, ih]

@[simp] theorem State.setBytes_opb (s : State) (a : Nat) (bs : List Byte) : (s.setBytes a bs).opb = s.opb := by
  induction bs generalizing s a with
  | nil => rfl
  | cons b bs ih => simp [State.setBytes, ih]

@[simp] theorem State.setBytes_res0 (s : State) (a : Nat) (bs : List Byte) : (s.setBytes a bs).res0 = s.res0 := by
  induction bs generalizing s a with
  | nil => rfl
  | cons b bs ih => simp [State.setBytes, ih]

@[simp] theorem State.setBytes_res1 (s : State) (a : Nat) (bs : List Byte) : (s.setBytes a bs).res1 = s.res1 := by
  induction bs generalizing s a with
  | nil => rfl
  | cons b bs ih => simp [State.setBytes, ih]

@[simp] theorem State.setBytes_crc (s : State) (a : Nat) (bs : List Byte) : (s.setBytes a bs).crc = s.crc := by
  induction bs generalizing s a with
  | nil => rfl
  | cons b bs ih => simp [State.setBytes, ih]

@[simp] theorem State.setBytes_brBase (s : State) (a : Nat) (bs : List Byte) : (s.setBytes a bs).brBase = s.brBase := by
  induction bs generalizing s a with
  | nil => rfl
  | cons b bs ih => simp [State.setBytes, ih]

@[simp] theorem State.setBytes_brLen (s : State) (a : Nat) (bs : List Byte) : (s.setBytes a bs).brLen = s.brLen := by
  induction bs generalizing s a with
  | nil => rfl
  | cons b bs ih => simp [State.setBytes, ih]

@[simp] theorem State.setBytes_brIdx (s : State) (a : Nat) (bs : List Byte) : (s.setBytes a bs).brIdx = s.brIdx := by
  induction bs generalizing s a with
  | nil => rfl
  | cons b bs ih => simp [State.setBytes, ih]

@[simp] theorem State.setBytes_brState (s : State) (a : Nat) (bs : List Byte) : (s.setBytes a bs).brState = s.brState := by
  induction bs generalizing s a with
  | nil => rfl
  | cons b bs ih => simp [State.setBytes, ih]

@[simp] theorem State.setBytes_fdCfg (s : State) (a : Nat) (bs : List Byte) : (s.setBytes a bs).fdCfg = s.fdCfg := by
  induction bs generalizing s a with
  | nil => rfl
  | cons b bs ih => simp [State.setBytes, ih]

@[simp] theorem State.setBytes_fdScanner (s : State) (a : Nat) (bs : List Byte) : (s.setBytes a bs).fdScanner = s.fdScanner := by
  induction bs generalizing s a with
  | nil => rfl
  | cons b bs ih => simp [State.setBytes, ih]

@[simp] theorem State.setBytes_fdH264 (s : State) (a : Nat) (bs : List Byte) : (s.setBytes a bs).fdH264 = s.fdH264 := by
  induction bs generalizing s a with
  | nil => rfl
  | cons b bs ih => simp [State.setBytes, ih]

@[simp] theorem State.setBytes_fdLog2mfn (s : State) (a : Nat) (bs : List Byte) : (s.setBytes a bs).fdLog2mfn = s.fdLog2mfn := by
  induction bs generalizing s a with
  | nil => rfl
  | cons b bs ih => simp [State.setBytes, ih]

@[simp] theorem State.setBytes_fdResult (s : State) (a : Nat) (bs : List Byte) : (s.setBytes a bs).fdResult = s.fdResult := by
  induction bs generalizing s a with
  | nil => rfl
  | cons b bs ih => simp [State.setBytes, ih]

@[simp] theorem State.setBytes_fdRate (s : State) (a : Nat) (bs : List Byte) : (s.setBytes a bs).fdRate = s.fdRate := by
  induction bs generalizing s a with
  | nil => rfl
  | cons b bs ih => simp [State.setBytes, ih]

@[simp] theorem State.setBytes_fdDuration (s : State) (a : Nat) (bs : List Byte) : (s.setBytes a bs).fdDuration = s.fdDuration := by
  induction bs generalizing s a with
  | nil => rfl
  | cons b bs ih => simp [State.setBytes, ih]

@[simp] theorem State.setBytes_fdSamples (s : State) (a : Nat) (bs : List Byte) : (s.setBytes a bs).fdSamples = s.fdSamples := by
  induction bs generalizing s a with
  | nil => rfl
  | cons b bs ih => simp [State.setBytes, ih]

@[simp] theorem State.setBytes_fdDefdur (s : State) (a : Nat) (bs : List Byte) : (s.setBytes a bs).fdDefdur = s.fdDefdur := by
  induction bs generalizing s a with
  | nil => rfl
  | cons b bs ih => simp [State.setBytes, ih]

@[simp] theorem State.setBytes_powerCycle (s : State) (a : Nat) (bs : List Byte) : (s.setBytes a bs).powerCycle = s.powerCycle := by
  induction bs generalizing s a with
  | nil => rfl
  | cons b bs ih => simp [State.setBytes, ih]

@[simp] theorem State.setBytes_freeCount (s : State) (a : Nat) (bs : List Byte) : (s.setBytes a bs).freeCount = s.freeCount := by
  induction bs generalizing s a with
  | nil => rfl
  | cons b bs ih => simp [State.setBytes, ih]

@[simp] theorem State.setBytes_host (s : State) (a : Nat) (bs : List Byte) : (s.setBytes a bs).host = s.host := by
  induction bs generalizing s a with
  | nil => rfl
  | cons b bs ih => simp [State.setBytes, ih]

@[simp] theorem State.setBytes_hostReply (s : State) (a : Nat) (bs : List Byte) : (s.setBytes a bs).hostReply = s.hostReply := by
  induction bs generalizing s a with
  | nil => rfl
  | cons b bs ih => simp [State.setBytes, ih]

/-! ## Status -/

@[simp] theorem Status.clearTransient_stickyErr (st : Status) : st.clearTransient.stickyErr = st.stickyErr := rfl
@[simp] theorem Status.clearTransient_busErr (st : Status) : st.clearTransient.busErr = st.busErr := rfl
@[simp] theorem Status.clearTransient_valid (st : Status) : st.clearTransient.valid = false := rfl
@[simp] theorem Status.clearTransient_needMore (st : Status) : st.clearTransient.needMore = false := rfl
@[simp] theorem Status.clearTransient_malformed (st : Status) : st.clearTransient.malformed = false := rfl
@[simp] theorem Status.clearTransient_newFrame (st : Status) : st.clearTransient.newFrame = false := rfl
@[simp] theorem Status.clearTransient_indepFrame (st : Status) : st.clearTransient.indepFrame = false := rfl
@[simp] theorem Status.clearTransient_brOvf (st : Status) : st.clearTransient.brOvf = false := rfl
@[simp] theorem Status.clearTransient_brEod (st : Status) : st.clearTransient.brEod = false := rfl
@[simp] theorem Status.clearTransient_err (st : Status) : st.clearTransient.err = .noError := rfl

end Sys2Proof.Machine
end

