-- ==== Sys2Proof/Laws/Memory.lean ====
section
/-! SUPPORT. Buffer memory: read after write, the canonical form, and the bytes of a view (20_memory.md R60 to R64). -/

namespace Sys2Proof.Machine

/-! ## The list of written bytes -/

theorem Memory.lookup_write (m : List Host.Cell) (a c : Nat) (v : Byte) :
    Memory.lookup (Memory.write m a v) c = if c = a then some v else Memory.lookup m c := by
  induction m with
  | nil => by_cases h : c = a <;> simp [Memory.write, Memory.lookup, h]
  | cons e m ih =>
    obtain ⟨k, b⟩ := e
    simp only [Memory.write]
    split_ifs with h1 h2 h3 h3 h3
    all_goals simp only [Memory.lookup, ih]
    all_goals split_ifs <;> first | rfl | omega

/-- Every listed address of a canonical list whose first address is `k` is at least `k`. -/
theorem Memory.wf_cons_le {k : Nat} {b : Byte} {m : List Host.Cell} (h : Memory.wf ((k, b) :: m) = true) :
    Memory.wf m = true ∧ ∀ c ∈ m, k < c.1 := by
  induction m generalizing k b with
  | nil => simp [Memory.wf]
  | cons e m ih =>
    obtain ⟨k', b'⟩ := e
    simp only [Memory.wf, Bool.and_eq_true, decide_eq_true_eq] at h
    refine ⟨h.2, fun c hc => ?_⟩
    rcases List.mem_cons.mp hc with rfl | hc
    · exact h.1
    · exact h.1.trans ((ih h.2).2 c hc)

theorem Memory.wf_cons_of {k : Nat} {b : Byte} {m : List Host.Cell} (h : Memory.wf m = true) (hk : ∀ c ∈ m, k < c.1) :
    Memory.wf ((k, b) :: m) = true := by
  cases m with
  | nil => rfl
  | cons e m => obtain ⟨k', b'⟩ := e; simpa [Memory.wf, h] using hk (k', b') (by simp)

theorem Memory.mem_write {m : List Host.Cell} {a : Nat} {v : Byte} {c : Host.Cell} (h : c ∈ Memory.write m a v) :
    c.1 = a ∨ c ∈ m := by
  induction m with
  | nil => simp_all [Memory.write]
  | cons e m ih =>
    obtain ⟨k, b⟩ := e
    simp only [Memory.write] at h
    split_ifs at h with h1 h2
    · rcases List.mem_cons.mp h with rfl | h <;> simp_all
    · rcases List.mem_cons.mp h with rfl | h <;> simp_all
    · rcases List.mem_cons.mp h with rfl | h
      · simp
      · rcases ih h with h | h <;> simp [h]

/-- A write keeps the canonical form. -/
theorem Memory.wf_write {m : List Host.Cell} (h : Memory.wf m = true) (a : Nat) (v : Byte) :
    Memory.wf (Memory.write m a v) = true := by
  induction m with
  | nil => rfl
  | cons e m ih =>
    obtain ⟨k, b⟩ := e
    obtain ⟨hm, hk⟩ := Memory.wf_cons_le h
    simp only [Memory.write]
    split_ifs with h1 h2
    · exact Memory.wf_cons_of h fun c hc => by
        rcases List.mem_cons.mp hc with rfl | hc
        · exact h1
        · exact h1.trans (hk c hc)
    · exact Memory.wf_cons_of hm (h2 ▸ hk)
    · exact Memory.wf_cons_of (ih hm) fun c hc => by
        rcases Memory.mem_write hc with h | h
        · omega
        · exact hk c h

/-! ## One byte, runs of bytes -/

theorem State.bufByte_setByte (s : State) (a c : Nat) (v : Byte) :
    (s.setByte a v).bufByte c = if c = a then v else s.bufByte c := by
  simp only [State.bufByte, State.setByte_mem, State.setByte_powerCycle, Memory.lookup_write]
  split_ifs <;> rfl

theorem State.bufByte_setBytes (s : State) (a c : Nat) (bs : List Byte) :
    (s.setBytes a bs).bufByte c = if a ≤ c ∧ c < a + bs.length then bs.getD (c - a) 0 else s.bufByte c := by
  induction bs generalizing s a with
  | nil => simp [State.setBytes, show ¬(a ≤ c ∧ c < a) by omega]
  | cons b bs ih =>
    simp only [State.setBytes, ih, State.bufByte_setByte, List.length_cons]
    by_cases h0 : c = a
    · subst h0; simp
    · by_cases h1 : a + 1 ≤ c ∧ c < a + 1 + bs.length
      · rw [if_pos h1, if_pos (by omega), show c - a = (c - (a + 1)) + 1 by omega]; simp
      · rw [if_neg h1, if_neg h0, if_neg (by omega)]

theorem State.setBytes_wf (s : State) (a : Nat) (bs : List Byte) (h : Memory.wf s.mem = true) :
    Memory.wf (s.setBytes a bs).mem = true := by
  induction bs generalizing s a with
  | nil => exact h
  | cons b bs ih => exact ih _ _ (by simpa using Memory.wf_write h a b)

/-- A run of bytes lists no address but the old ones and its own. -/
theorem State.mem_setBytes {s : State} {a : Nat} {bs : List Byte} {c : Host.Cell} (h : c ∈ (s.setBytes a bs).mem) :
    c ∈ s.mem ∨ (a ≤ c.1 ∧ c.1 < a + bs.length) := by
  induction bs generalizing s a with
  | nil => exact .inl h
  | cons b bs ih =>
    rcases ih h with h | h
    · rcases Memory.mem_write (by simpa using h) with h | h
      · exact .inr (by simp; omega)
      · exact .inl h
    · exact .inr (by simp; omega)

/-- What a run of bytes inside the buffer leaves of the memory invariant. -/
theorem State.setBytes_memOk {s : State} (h : s.memOk) {a : Nat} {bs : List Byte} (hb : a + bs.length ≤ s.params.bufSize) :
    (s.setBytes a bs).memOk := by
  refine ⟨State.setBytes_wf s a bs h.1, fun c hc => ?_⟩
  rw [State.setBytes_params]
  rcases State.mem_setBytes hc with hc | hc
  · exact h.2 c hc
  · omega

@[simp] theorem State.bytes_length (s : State) (a n : Nat) : (s.bytes a n).length = n := by
  induction n generalizing a with
  | zero => rfl
  | succ n ih => simp [State.bytes, ih]

theorem State.bytes_getD (s : State) (a n i : Nat) : (s.bytes a n).getD i 0 = if i < n then s.bufByte (a + i) else 0 := by
  induction n generalizing a i with
  | zero => simp [State.bytes]
  | succ n ih =>
    cases i with
    | zero => simp [State.bytes]
    | succ i => simpa [State.bytes, Nat.add_assoc, Nat.add_comm 1 i] using ih (a + 1) i

/-- Two states whose buffers agree on a run of bytes read the same run. -/
theorem State.bytes_congr {s t : State} {a n : Nat} (h : ∀ i, i < n → s.bufByte (a + i) = t.bufByte (a + i)) :
    s.bytes a n = t.bytes a n := by
  induction n generalizing a with
  | zero => rfl
  | succ n ih =>
    simp only [State.bytes]
    rw [show s.bufByte a = t.bufByte a by simpa using h 0 (by omega), ih fun i hi => by
      simpa [Nat.add_assoc, Nat.add_comm 1 i] using h (i + 1) (by omega)]

@[simp] theorem beBytes_length (n v : Nat) : (beBytes n v).length = n := by
  induction n with
  | zero => rfl
  | succ n ih => simp [beBytes, ih]

@[simp] theorem leBytes_length (n v : Nat) : (leBytes n v).length = n := by
  induction n generalizing v with
  | zero => rfl
  | succ n ih => simp [leBytes, ih]

@[simp] theorem tsEncode_length (v : Stamp) (b : Byte) : (tsEncode v b).length = 5 := rfl

@[simp] theorem pcrBytes_length (b e : Nat) : (pcrBytes b e).length = 6 := rfl

/-! ## Views -/

@[simp] theorem takeFill_length (l : Nat) (bs : List Byte) : (takeFill l bs).length = l := by
  induction l generalizing bs with
  | zero => rfl
  | succ l ih => cases bs <;> simp [takeFill, ih]

theorem takeFill_getD (l i : Nat) (bs : List Byte) : (takeFill l bs).getD i 0 = if i < l then bs.getD i 0 else 0 := by
  induction l generalizing bs i with
  | zero => simp [takeFill]
  | succ l ih =>
    cases bs with
    | nil => cases i <;> simp [takeFill]; simpa using ih _ []
    | cons b bs => cases i <;> simp [takeFill]; simpa using ih _ bs

@[simp] theorem State.view_base (s : State) (a l : Nat) : (s.view a l).base = a := rfl
@[simp] theorem State.view_len (s : State) (a l : Nat) : (s.view a l).len = l := by simp [State.view, View.len]

/-- Reading byte `i` of a view (20_memory.md R63). -/
theorem State.view_get (s : State) (a l i : Nat) : (s.view a l).get i = if i < l then s.bufByte (a + i) else 0 :=
  State.bytes_getD s a l i

@[simp] theorem View.sub_base (V : View) (o l : Nat) : (V.sub o l).base = V.base + o := rfl
@[simp] theorem View.sub_len (V : View) (o l : Nat) : (V.sub o l).len = l := by simp [View.sub, View.len]

/-- Byte `i` of a sub-view (20_memory.md R62). -/
theorem View.sub_get (V : View) (o l i : Nat) : (V.sub o l).get i = if i < l then V.get (o + i) else 0 := by
  simp only [View.get, View.sub, takeFill_getD]
  split_ifs <;> simp [List.getD_eq_getElem?_getD, List.getElem?_drop]

theorem View.get_of_len_le {V : View} {i : Nat} (h : V.len ≤ i) : V.get i = 0 := by
  simp [View.get, View.len] at *; simp [List.getElem?_eq_none h]

@[simp] theorem State.inputView_base (s : State) : s.inputView.base = s.addr.toNat := rfl
@[simp] theorem State.inputView_len (s : State) : s.inputView.len = s.len.toNat := by simp [State.inputView]

end Sys2Proof.Machine
end

