-- ==== Sys2Proof/Laws/Command.lean ====
section
/-! SUPPORT. What a command can do (40_control.md R100, R102): the rule of each command, the two ways a command ends, and the
two ways each operand check ends. -/

namespace Sys2Proof.Machine

/-- The rule each command runs after the cycle's start. -/
def ruleOf : Instr → State → Except ErrCode State
  | .nop => nopRule
  | .clrStatus => clrStatusRule
  | .softReset => softResetRule
  | .brInit => brInitRule false
  | .brInitRaw => brInitRule true
  | .brBit => brBitRule
  | .brBits => brBitsRule
  | .brUe => brUeRule
  | .brSe => brSeRule
  | .brByte => brByteRule
  | .crcInit => crcInitRule
  | .crcSeed => crcSeedRule
  | .crcUpdate => crcUpdateRule
  | .crcCheck => crcCheckRule false
  | .crcCheckAcc => crcCheckRule true
  | .crcAppend => crcAppendRule
  | .sectCheck => sectCheckRule
  | .tsHdr => tsHdrRule
  | .tsPcrGet => tsPcrGetRule
  | .tsPcrSet => tsPcrSetRule
  | .pesAnalyze => pesAnalyzeRule
  | .pesGetTsPts => pesGetTsRule .pts
  | .pesGetTsDts => pesGetTsRule .dts
  | .pesSetTsPts => pesSetTsRule .pts
  | .pesSetTsDts => pesSetTsRule .dts
  | .tsFindTsPts => tsFindTsRule .pts
  | .tsFindTsDts => tsFindTsRule .dts
  | .tsSetTsPts => tsSetTsRule .pts
  | .tsSetTsDts => tsSetTsRule .dts
  | .t33Diff => t33DiffRule
  | .t33Add => t33AddRule
  | .fdConfigAudio => fdConfigRule .audio
  | .fdConfigMpeg2 => fdConfigRule .mpeg2
  | .fdConfigH264 => fdConfigRule .h264
  | .fdPacket => fdPacketRule

/-- Every command is the cycle's start and its rule. -/
theorem exec_eq_command (i : Instr) (s : State) : exec i s = command (encode i) (ruleOf i) s := by
  cases i <;> rfl

/-- A rule that succeeds gives the command's next state. -/
theorem command_ok {w : Word} {rule : State → Except ErrCode State} {s t : State}
    (h : rule (s.beginCommand w) = .ok t) : command w rule s = .next t := by
  simp only [command, h]

/-- A rule that fails leaves only CMD and STATUS changed. -/
theorem command_error {w : Word} {rule : State → Except ErrCode State} {s : State} {e : ErrCode}
    (h : rule (s.beginCommand w) = .error e) : command w rule s = .next ((s.beginCommand w).raise e) := by
  simp only [command, h]

/-- Everything a command can do. -/
theorem command_cases {w : Word} {rule : State → Except ErrCode State} {s t : State} (h : command w rule s = .next t) :
    rule (s.beginCommand w) = .ok t ∨
      ∃ e, rule (s.beginCommand w) = .error e ∧ t = (s.beginCommand w).raise e := by
  unfold command at h
  split at h
  · next r hr => exact .inl (by cases h; exact hr)
  · next e he => exact .inr ⟨e, he, by cases h; rfl⟩

/-- A command always answers a next state. -/
theorem command_next (w : Word) (rule : State → Except ErrCode State) (s : State) : ∃ t, command w rule s = .next t := by
  cases h : rule (s.beginCommand w) with
  | ok t => exact ⟨t, command_ok h⟩
  | error e => exact ⟨_, command_error h⟩

theorem withView_inside {s : State} (h : s.viewEnd ≤ s.params.bufSize) (rule : View → State) :
    withView s rule = .ok (rule s.inputView) := if_neg (by omega)

theorem withView_outside {s : State} (h : s.params.bufSize < s.viewEnd) (rule : View → State) :
    withView s rule = .error .range := if_pos h

/-- Everything a view operand can do. -/
theorem withView_ok {s t : State} {rule : View → State} (h : withView s rule = .ok t) :
    s.viewEnd ≤ s.params.bufSize ∧ t = rule s.inputView := by
  unfold withView at h
  split_ifs at h with hb
  exact ⟨by omega, by cases h; rfl⟩

theorem withViewAndTail_ok {s t : State} {rule : View → State} (h : withViewAndTail s rule = .ok t) :
    s.viewEnd + 4 ≤ s.params.bufSize ∧ t = rule s.inputView := by
  unfold withViewAndTail at h
  split_ifs at h with hb
  exact ⟨by omega, by cases h; rfl⟩

theorem activeCursor_ok {s t : State} {rule : Except ErrCode State} (h : activeCursor s rule = .ok t) :
    s.brState.active = true ∧ rule = .ok t := by
  unfold activeCursor at h
  split_ifs at h with ha
  exact ⟨ha, h⟩

theorem configuredDetector_ok {s t : State} {rule : Except ErrCode State} (h : configuredDetector s rule = .ok t) :
    s.fdCfg.configured = true ∧ rule = .ok t := by
  unfold configuredDetector at h
  split_ifs at h with ha
  exact ⟨ha, h⟩

theorem bitCountOperand_ok {s t : State} {rule : Nat → State} (h : bitCountOperand s rule = .ok t) :
    s.opa.toNat ≤ 32 ∧ t = rule s.opa.toNat := by
  unfold bitCountOperand at h
  split_ifs at h with hb
  exact ⟨by omega, by cases h; rfl⟩

theorem pidOperand_ok {s t : State} {rule : BitVec 13 → State} (h : pidOperand s rule = .ok t) :
    s.opa.toNat ≤ 0x1FFF ∧ t = rule (s.opa.setWidth 13) := by
  unfold pidOperand at h
  split_ifs at h with hb
  exact ⟨by omega, by cases h; rfl⟩

@[simp] theorem State.beginCommand_viewEnd (s : State) (w : Word) : (s.beginCommand w).viewEnd = s.viewEnd := rfl

/-- The cycle's start reads the same buffer. -/
@[simp] theorem State.beginCommand_bufByte (s : State) (w : Word) (a : Nat) : (s.beginCommand w).bufByte a = s.bufByte a := rfl

@[simp] theorem State.beginCommand_bytes (s : State) (w : Word) (a n : Nat) : (s.beginCommand w).bytes a n = s.bytes a n :=
  State.bytes_congr fun _ _ => rfl

@[simp] theorem State.beginCommand_inputView (s : State) (w : Word) : (s.beginCommand w).inputView = s.inputView := by
  simp [State.inputView, State.view]

end Sys2Proof.Machine
end

