-- ==== Sys2Proof/Laws/BitReader.lean ====
section
/-! SUPPORT. The cursor primitives (41_bitreader.md R112 to R118): what each does to a reader, and one closure lemma: a property
that a raw fetch and the bookkeeping of bits keep is kept by every read. -/

namespace Sys2Proof.Machine

variable {σ : Type} {next : Source σ}

/-- A bit is taken from the refilled reader (41_bitreader.md R114). -/
theorem getBit_eq (next : Source σ) (r : Reader σ) :
    getBit next r = ((refill next r).bits.cur.getLsbD ((refill next r).bits.nbits - 1),
      { refill next r with bits := { (refill next r).bits with nbits := (refill next r).bits.nbits - 1 } }) := rfl

theorem getBitsFrom_succ (next : Source σ) (v n : Nat) (r : Reader σ) :
    getBitsFrom next v (n + 1) r = getBitsFrom next (2 * v + (getBit next r).1.toNat) n (getBit next r).2 := rfl

theorem leadingZeros_succ (next : Source σ) (z k : Nat) (r : Reader σ) :
    leadingZeros next z (k + 1) r =
      if (getBit next r).1 then (some z, (getBit next r).2) else leadingZeros next (z + 1) k (getBit next r).2 := by
  simp only [leadingZeros]
  rcases getBit next r with ⟨_ | _, r1⟩ <;> rfl

/-- The value of a ue code never exceeds 32 bits (41_bitreader.md R116) nor a field of `n` bits `2^n` (R115). -/
theorem getBitsFrom_lt (next : Source σ) (n v : Nat) (r : Reader σ) :
    (getBitsFrom next v n r).1 < (v + 1) * 2 ^ n := by
  induction n generalizing v r with
  | zero => simp [getBitsFrom]
  | succ n ih =>
    rw [getBitsFrom_succ]
    refine (ih _ _).trans_le ?_
    rw [pow_succ, mul_comm (2 ^ n), ← mul_assoc]
    exact Nat.mul_le_mul_right _ (by cases (getBit next r).1 <;> simp <;> omega)

/-- A property of readers that the pieces of a read keep. -/
structure ReadInv (next : Source σ) (I : Reader σ → Prop) : Prop where
  fetchRaw : ∀ r, I r → I (fetchRaw next r).2
  byte : ∀ r c z, I r → z ≤ 2 → I { r with bits := { r.bits with cur := c, zeros := z } }
  bits : ∀ r n, I r → n ≤ 8 → I { r with bits := { r.bits with nbits := n } }
  nbits : ∀ r, I r → r.bits.nbits ≤ 8

theorem zerosAfter_le (z : Nat) (b : Byte) : zerosAfter z b ≤ 2 := by
  unfold zerosAfter
  split_ifs <;> omega

namespace ReadInv

variable {I : Reader σ → Prop} (h : ReadInv next I)
include h

theorem fetch {r : Reader σ} (hr : I r) : I (fetch next r).2 := by
  have h1 := h.fetchRaw r hr
  unfold Machine.fetch
  rcases hf : Machine.fetchRaw next r with ⟨b, r1⟩
  rw [hf] at h1
  simp only
  split_ifs
  · exact h.byte _ _ _ h1 (by omega)
  · exact h.byte _ _ _ (h.fetchRaw _ h1) (zerosAfter_le _ _)
  · exact h.byte _ _ _ h1 (zerosAfter_le _ _)

theorem refill {r : Reader σ} (hr : I r) : I (refill next r) := by
  unfold Machine.refill
  split_ifs
  · exact h.bits _ _ (h.fetch hr) (by omega)
  · exact hr

theorem getBit {r : Reader σ} (hr : I r) : I (getBit next r).2 := by
  have h1 := h.refill hr
  exact h.bits _ _ h1 (by have := h.nbits _ h1; omega)

theorem readByte {r : Reader σ} (hr : I r) : I (readByte next r).2 :=
  h.fetch (h.bits r 0 hr (by omega))

theorem getBitsFrom {r : Reader σ} (hr : I r) (v n : Nat) : I (getBitsFrom next v n r).2 := by
  induction n generalizing r v with
  | zero => exact hr
  | succ n ih => exact ih (h.getBit hr) _

theorem leadingZeros {r : Reader σ} (hr : I r) (z n : Nat) : I (leadingZeros next z n r).2 := by
  induction n generalizing r z with
  | zero => exact hr
  | succ n ih =>
    rw [leadingZeros_succ]
    split_ifs
    · exact h.getBit hr
    · exact ih (h.getBit hr) _

theorem readUe {r : Reader σ} (hr : I r) : I (readUe next r).2 := by
  have h1 := h.leadingZeros hr 0 32
  unfold Machine.readUe
  rcases hz : Machine.leadingZeros next 0 32 r with ⟨_ | z, r1⟩ <;> rw [hz] at h1
  · exact h1
  · exact h.getBitsFrom h1 0 z

theorem readSe {r : Reader σ} (hr : I r) : I (readSe next r).2 := h.readUe hr

end ReadInv

/-- The BR cursor inside its view (10_state.md R31, R32; 41_bitreader.md R112). -/
def BrReaderOk (s : State) (r : Reader Word) : Prop :=
  r.src.toNat ≤ s.brLen.toNat ∧ r.bits.nbits ≤ 8 ∧ r.bits.zeros ≤ 2 ∧ (r.bits.pastEnd = true → r.src = s.brLen)

/-- Every BR read keeps the cursor inside its view. -/
theorem brReaderOk_readInv (s : State) : ReadInv s.brSource (BrReaderOk s) where
  fetchRaw := by
    rintro r ⟨h1, h2, h3, h4⟩
    have hlen := s.brLen.isLt
    by_cases hlt : r.src.toNat < s.brLen.toNat
    · have hs : (r.src + 1).toNat = r.src.toNat + 1 := by
        rw [BitVec.toNat_add]; simp; omega
      have hf : (fetchRaw s.brSource r).2 = { r with src := r.src + 1 } := by
        simp [fetchRaw, State.brSource, hlt]
      rw [hf]
      exact ⟨by simp only [hs]; omega, h2, h3, fun hp => absurd (congrArg BitVec.toNat (h4 hp)) (by omega)⟩
    · have hf : (fetchRaw s.brSource r).2 = { r with bits := { r.bits with pastEnd := true } } := by
        simp [fetchRaw, State.brSource, hlt]
      rw [hf]
      exact ⟨h1, h2, h3, fun _ => BitVec.eq_of_toNat_eq (by simp only; omega)⟩
  byte := fun r c z ⟨h1, h2, _, h4⟩ hz => ⟨h1, h2, hz, h4⟩
  bits := fun r n ⟨h1, _, h3, h4⟩ hn => ⟨h1, hn, h3, h4⟩
  nbits := fun r h => h.2.1

end Sys2Proof.Machine
end

