-- ==== Sys2Proof/Laws/FrameDetector.lean ====
section
/-! SUPPORT. What the steps of FD_PACKET leave alone (45_frame_detector.md R192, R211 to R214), and what the sampling keeps of
the rate invariant. -/

namespace Sys2Proof.Machine

/-! ## decide(), sample(p), post(V, f, R) -/

@[simp] theorem decideRate_params (s : State) : (decideRate s).params = s.params := rfl
@[simp] theorem decideRate_cmd (s : State) : (decideRate s).cmd = s.cmd := rfl
@[simp] theorem decideRate_status (s : State) : (decideRate s).status = s.status := rfl
@[simp] theorem decideRate_addr (s : State) : (decideRate s).addr = s.addr := rfl
@[simp] theorem decideRate_len (s : State) : (decideRate s).len = s.len := rfl
@[simp] theorem decideRate_opa (s : State) : (decideRate s).opa = s.opa := rfl
@[simp] theorem decideRate_opb (s : State) : (decideRate s).opb = s.opb := rfl
@[simp] theorem decideRate_res0 (s : State) : (decideRate s).res0 = s.res0 := rfl
@[simp] theorem decideRate_res1 (s : State) : (decideRate s).res1 = s.res1 := rfl
@[simp] theorem decideRate_crc (s : State) : (decideRate s).crc = s.crc := rfl
@[simp] theorem decideRate_brBase (s : State) : (decideRate s).brBase = s.brBase := rfl
@[simp] theorem decideRate_brLen (s : State) : (decideRate s).brLen = s.brLen := rfl
@[simp] theorem decideRate_brIdx (s : State) : (decideRate s).brIdx = s.brIdx := rfl
@[simp] theorem decideRate_brState (s : State) : (decideRate s).brState = s.brState := rfl
@[simp] theorem decideRate_fdCfg (s : State) : (decideRate s).fdCfg = s.fdCfg := rfl
@[simp] theorem decideRate_fdScanner (s : State) : (decideRate s).fdScanner = s.fdScanner := rfl
@[simp] theorem decideRate_fdH264 (s : State) : (decideRate s).fdH264 = s.fdH264 := rfl
@[simp] theorem decideRate_fdLog2mfn (s : State) : (decideRate s).fdLog2mfn = s.fdLog2mfn := rfl
@[simp] theorem decideRate_fdResult (s : State) : (decideRate s).fdResult = s.fdResult := rfl
@[simp] theorem decideRate_fdSamples (s : State) : (decideRate s).fdSamples = s.fdSamples := rfl
@[simp] theorem decideRate_fdDefdur (s : State) : (decideRate s).fdDefdur = s.fdDefdur := rfl
@[simp] theorem decideRate_mem (s : State) : (decideRate s).mem = s.mem := rfl
@[simp] theorem decideRate_powerCycle (s : State) : (decideRate s).powerCycle = s.powerCycle := rfl
@[simp] theorem decideRate_host (s : State) : (decideRate s).host = s.host := rfl
@[simp] theorem decideRate_hostReply (s : State) : (decideRate s).hostReply = s.hostReply := rfl
@[simp] theorem decideRate_synced (s : State) : (decideRate s).fdRate.synced = true := rfl
@[simp] theorem decideRate_iframeSeen (s : State) : (decideRate s).fdRate.iframeSeen = s.fdRate.iframeSeen := rfl
@[simp] theorem decideRate_fieldCoded (s : State) : (decideRate s).fdRate.fieldCoded = s.fdRate.fieldCoded := rfl

@[simp] theorem addSample_params (p : Stamp) (s : State) : (addSample p s).params = s.params := by
  unfold addSample
  simp only
  split_ifs <;> rfl

@[simp] theorem addSample_cmd (p : Stamp) (s : State) : (addSample p s).cmd = s.cmd := by
  unfold addSample
  simp only
  split_ifs <;> rfl

@[simp] theorem addSample_status (p : Stamp) (s : State) : (addSample p s).status = s.status := by
  unfold addSample
  simp only
  split_ifs <;> rfl

@[simp] theorem addSample_addr (p : Stamp) (s : State) : (addSample p s).addr = s.addr := by
  unfold addSample
  simp only
  split_ifs <;> rfl

@[simp] theorem addSample_len (p : Stamp) (s : State) : (addSample p s).len = s.len := by
  unfold addSample
  simp only
  split_ifs <;> rfl

@[simp] theorem addSample_opa (p : Stamp) (s : State) : (addSample p s).opa = s.opa := by
  unfold addSample
  simp only
  split_ifs <;> rfl

@[simp] theorem addSample_opb (p : Stamp) (s : State) : (addSample p s).opb = s.opb := by
  unfold addSample
  simp only
  split_ifs <;> rfl

@[simp] theorem addSample_res0 (p : Stamp) (s : State) : (addSample p s).res0 = s.res0 := by
  unfold addSample
  simp only
  split_ifs <;> rfl

@[simp] theorem addSample_res1 (p : Stamp) (s : State) : (addSample p s).res1 = s.res1 := by
  unfold addSample
  simp only
  split_ifs <;> rfl

@[simp] theorem addSample_crc (p : Stamp) (s : State) : (addSample p s).crc = s.crc := by
  unfold addSample
  simp only
  split_ifs <;> rfl

@[simp] theorem addSample_brBase (p : Stamp) (s : State) : (addSample p s).brBase = s.brBase := by
  unfold addSample
  simp only
  split_ifs <;> rfl

@[simp] theorem addSample_brLen (p : Stamp) (s : State) : (addSample p s).brLen = s.brLen := by
  unfold addSample
  simp only
  split_ifs <;> rfl

@[simp] theorem addSample_brIdx (p : Stamp) (s : State) : (addSample p s).brIdx = s.brIdx := by
  unfold addSample
  simp only
  split_ifs <;> rfl

@[simp] theorem addSample_brState (p : Stamp) (s : State) : (addSample p s).brState = s.brState := by
  unfold addSample
  simp only
  split_ifs <;> rfl

@[simp] theorem addSample_fdCfg (p : Stamp) (s : State) : (addSample p s).fdCfg = s.fdCfg := by
  unfold addSample
  simp only
  split_ifs <;> rfl

@[simp] theorem addSample_fdScanner (p : Stamp) (s : State) : (addSample p s).fdScanner = s.fdScanner := by
  unfold addSample
  simp only
  split_ifs <;> rfl

@[simp] theorem addSample_fdH264 (p : Stamp) (s : State) : (addSample p s).fdH264 = s.fdH264 := by
  unfold addSample
  simp only
  split_ifs <;> rfl

@[simp] theorem addSample_fdLog2mfn (p : Stamp) (s : State) : (addSample p s).fdLog2mfn = s.fdLog2mfn := by
  unfold addSample
  simp only
  split_ifs <;> rfl

@[simp] theorem addSample_fdResult (p : Stamp) (s : State) : (addSample p s).fdResult = s.fdResult := by
  unfold addSample
  simp only
  split_ifs <;> rfl

@[simp] theorem addSample_fdDefdur (p : Stamp) (s : State) : (addSample p s).fdDefdur = s.fdDefdur := by
  unfold addSample
  simp only
  split_ifs <;> rfl

@[simp] theorem addSample_mem (p : Stamp) (s : State) : (addSample p s).mem = s.mem := by
  unfold addSample
  simp only
  split_ifs <;> rfl

@[simp] theorem addSample_powerCycle (p : Stamp) (s : State) : (addSample p s).powerCycle = s.powerCycle := by
  unfold addSample
  simp only
  split_ifs <;> rfl

@[simp] theorem addSample_host (p : Stamp) (s : State) : (addSample p s).host = s.host := by
  unfold addSample
  simp only
  split_ifs <;> rfl

@[simp] theorem addSample_hostReply (p : Stamp) (s : State) : (addSample p s).hostReply = s.hostReply := by
  unfold addSample
  simp only
  split_ifs <;> rfl

/-- The samples after one more (45_frame_detector.md R212). -/
@[simp] theorem addSample_fdSamples (p : Stamp) (s : State) :
    (addSample p s).fdSamples = (if clockWrapped s.fdSamples p then [] else s.fdSamples) ++ [p] := by
  unfold addSample
  simp only
  split_ifs <;> simp

@[simp] theorem postPacket_params (V : View) (f : TsFields) (R : FdResult) (s : State) :
    (postPacket V f R s).params = s.params := by
  unfold postPacket
  simp only
  split_ifs <;> simp

@[simp] theorem postPacket_cmd (V : View) (f : TsFields) (R : FdResult) (s : State) :
    (postPacket V f R s).cmd = s.cmd := by
  unfold postPacket
  simp only
  split_ifs <;> simp

@[simp] theorem postPacket_status (V : View) (f : TsFields) (R : FdResult) (s : State) :
    (postPacket V f R s).status = s.status := by
  unfold postPacket
  simp only
  split_ifs <;> simp

@[simp] theorem postPacket_addr (V : View) (f : TsFields) (R : FdResult) (s : State) :
    (postPacket V f R s).addr = s.addr := by
  unfold postPacket
  simp only
  split_ifs <;> simp

@[simp] theorem postPacket_len (V : View) (f : TsFields) (R : FdResult) (s : State) :
    (postPacket V f R s).len = s.len := by
  unfold postPacket
  simp only
  split_ifs <;> simp

@[simp] theorem postPacket_opa (V : View) (f : TsFields) (R : FdResult) (s : State) :
    (postPacket V f R s).opa = s.opa := by
  unfold postPacket
  simp only
  split_ifs <;> simp

@[simp] theorem postPacket_opb (V : View) (f : TsFields) (R : FdResult) (s : State) :
    (postPacket V f R s).opb = s.opb := by
  unfold postPacket
  simp only
  split_ifs <;> simp

@[simp] theorem postPacket_res0 (V : View) (f : TsFields) (R : FdResult) (s : State) :
    (postPacket V f R s).res0 = s.res0 := by
  unfold postPacket
  simp only
  split_ifs <;> simp

@[simp] theorem postPacket_res1 (V : View) (f : TsFields) (R : FdResult) (s : State) :
    (postPacket V f R s).res1 = s.res1 := by
  unfold postPacket
  simp only
  split_ifs <;> simp

@[simp] theorem postPacket_crc (V : View) (f : TsFields) (R : FdResult) (s : State) :
    (postPacket V f R s).crc = s.crc := by
  unfold postPacket
  simp only
  split_ifs <;> simp

@[simp] theorem postPacket_brBase (V : View) (f : TsFields) (R : FdResult) (s : State) :
    (postPacket V f R s).brBase = s.brBase := by
  unfold postPacket
  simp only
  split_ifs <;> simp

@[simp] theorem postPacket_brLen (V : View) (f : TsFields) (R : FdResult) (s : State) :
    (postPacket V f R s).brLen = s.brLen := by
  unfold postPacket
  simp only
  split_ifs <;> simp

@[simp] theorem postPacket_brIdx (V : View) (f : TsFields) (R : FdResult) (s : State) :
    (postPacket V f R s).brIdx = s.brIdx := by
  unfold postPacket
  simp only
  split_ifs <;> simp

@[simp] theorem postPacket_brState (V : View) (f : TsFields) (R : FdResult) (s : State) :
    (postPacket V f R s).brState = s.brState := by
  unfold postPacket
  simp only
  split_ifs <;> simp

@[simp] theorem postPacket_fdCfg (V : View) (f : TsFields) (R : FdResult) (s : State) :
    (postPacket V f R s).fdCfg = s.fdCfg := by
  unfold postPacket
  simp only
  split_ifs <;> simp

@[simp] theorem postPacket_fdScanner (V : View) (f : TsFields) (R : FdResult) (s : State) :
    (postPacket V f R s).fdScanner = s.fdScanner := by
  unfold postPacket
  simp only
  split_ifs <;> simp

@[simp] theorem postPacket_fdH264 (V : View) (f : TsFields) (R : FdResult) (s : State) :
    (postPacket V f R s).fdH264 = s.fdH264 := by
  unfold postPacket
  simp only
  split_ifs <;> simp

@[simp] theorem postPacket_fdLog2mfn (V : View) (f : TsFields) (R : FdResult) (s : State) :
    (postPacket V f R s).fdLog2mfn = s.fdLog2mfn := by
  unfold postPacket
  simp only
  split_ifs <;> simp

@[simp] theorem postPacket_fdResult (V : View) (f : TsFields) (R : FdResult) (s : State) :
    (postPacket V f R s).fdResult = s.fdResult := by
  unfold postPacket
  simp only
  split_ifs <;> simp

@[simp] theorem postPacket_fdDefdur (V : View) (f : TsFields) (R : FdResult) (s : State) :
    (postPacket V f R s).fdDefdur = s.fdDefdur := by
  unfold postPacket
  simp only
  split_ifs <;> simp

@[simp] theorem postPacket_mem (V : View) (f : TsFields) (R : FdResult) (s : State) :
    (postPacket V f R s).mem = s.mem := by
  unfold postPacket
  simp only
  split_ifs <;> simp

@[simp] theorem postPacket_powerCycle (V : View) (f : TsFields) (R : FdResult) (s : State) :
    (postPacket V f R s).powerCycle = s.powerCycle := by
  unfold postPacket
  simp only
  split_ifs <;> simp

@[simp] theorem postPacket_host (V : View) (f : TsFields) (R : FdResult) (s : State) :
    (postPacket V f R s).host = s.host := by
  unfold postPacket
  simp only
  split_ifs <;> simp

@[simp] theorem postPacket_hostReply (V : View) (f : TsFields) (R : FdResult) (s : State) :
    (postPacket V f R s).hostReply = s.hostReply := by
  unfold postPacket
  simp only
  split_ifs <;> simp

/-- Everything the step after the parser can do (45_frame_detector.md R211): the flags, and at most one sample. -/
theorem postPacket_cases (V : View) (f : TsFields) (R : FdResult) (s : State) :
    postPacket V f R s = { s with fdRate := s.fdRate.noteResult R } ∨
      s.fdRate.synced = false ∧ f.pusi = true ∧ ∃ p, postPacket V f R s = addSample p { s with fdRate := s.fdRate.noteResult R } := by
  unfold postPacket
  simp only
  split_ifs with h
  · simp only [Bool.and_eq_true, Bool.not_eq_true'] at h
    exact .inr ⟨h.1.1.1, h.1.1.2, _, rfl⟩
  · exact .inl rfl

/-- One more sample keeps the rate invariant while scanning (10_state.md R40, R42; 45_frame_detector.md R212). -/
theorem addSample_rateOk {s : State} {p : Stamp} (hw : 0 < s.params.ptsWindow) (hlt : s.fdSamples.length < s.params.ptsWindow)
    (hd : s.fdDuration = 0) (hr : s.fdRate.rateCode = .undecided) : (addSample p s).rateOk := by
  have hlen : (addSample p s).fdSamples.length ≤ s.params.ptsWindow := by
    rw [addSample_fdSamples]
    split_ifs <;> simp <;> omega
  refine ⟨by simpa only [addSample_params] using hlen, fun hs => ?_⟩
  have hne : (addSample p s).fdSamples.length ≠ s.params.ptsWindow ∧ (addSample p s).fdDuration = 0 ∧
      (addSample p s).fdRate.rateCode = .undecided := by
    unfold addSample at hs ⊢
    simp only at hs ⊢
    split_ifs at hs ⊢ <;> simp_all
  exact ⟨by simpa only [addSample_params] using lt_of_le_of_ne hlen hne.1, hne.2⟩

/-! ## The mode of the deltas (45_frame_detector.md R213) -/

theorem betterDelta_eq (ds : List Nat) (a b : Nat) : betterDelta ds a b = a ∨ betterDelta ds a b = b := by
  unfold betterDelta
  split_ifs <;> simp

end Sys2Proof.Machine
end

