-- ==== Sys2Proof/Laws/PerInstr.lean ====
section
/-! SUPPORT. One lemma per command about its word as text: the fields of the encoded word pass the four checks of
30_encoding.md R82, carry the command's opcode and flags, and the assembler can name it (R87). -/

namespace Sys2Proof.Laws.CommandWord

/-- The word of a command is legal, carries its opcode and flags, and has an assembler name. -/
def Statement (i : Instr) : Prop :=
  (CommandFields.ofWord (encode i)).wellFormed = true ∧ (CommandFields.ofWord (encode i)).opcode = i.opcode.code ∧
    (CommandFields.ofWord (encode i)).flags = i.flags ∧
    ∃ o sfx, assemble o sfx = some i

theorem nop : Statement .nop := ⟨by decide, by decide, by decide, .nop, none, rfl⟩
theorem clrStatus : Statement .clrStatus := ⟨by decide, by decide, by decide, .clrStatus, none, rfl⟩
theorem softReset : Statement .softReset := ⟨by decide, by decide, by decide, .softReset, none, rfl⟩
theorem brInit : Statement .brInit := ⟨by decide, by decide, by decide, .brInit, none, rfl⟩
theorem brInitRaw : Statement .brInitRaw := ⟨by decide, by decide, by decide, .brInit, some .raw, rfl⟩
theorem brBit : Statement .brBit := ⟨by decide, by decide, by decide, .brBit, none, rfl⟩
theorem brBits : Statement .brBits := ⟨by decide, by decide, by decide, .brBits, none, rfl⟩
theorem brUe : Statement .brUe := ⟨by decide, by decide, by decide, .brUe, none, rfl⟩
theorem brSe : Statement .brSe := ⟨by decide, by decide, by decide, .brSe, none, rfl⟩
theorem brByte : Statement .brByte := ⟨by decide, by decide, by decide, .brByte, none, rfl⟩
theorem crcInit : Statement .crcInit := ⟨by decide, by decide, by decide, .crcInit, none, rfl⟩
theorem crcSeed : Statement .crcSeed := ⟨by decide, by decide, by decide, .crcSeed, none, rfl⟩
theorem crcUpdate : Statement .crcUpdate := ⟨by decide, by decide, by decide, .crcUpdate, none, rfl⟩
theorem crcCheck : Statement .crcCheck := ⟨by decide, by decide, by decide, .crcCheck, none, rfl⟩
theorem crcCheckAcc : Statement .crcCheckAcc := ⟨by decide, by decide, by decide, .crcCheck, some .acc, rfl⟩
theorem crcAppend : Statement .crcAppend := ⟨by decide, by decide, by decide, .crcAppend, none, rfl⟩
theorem sectCheck : Statement .sectCheck := ⟨by decide, by decide, by decide, .sectCheck, none, rfl⟩
theorem tsHdr : Statement .tsHdr := ⟨by decide, by decide, by decide, .tsHdr, none, rfl⟩
theorem tsPcrGet : Statement .tsPcrGet := ⟨by decide, by decide, by decide, .tsPcrGet, none, rfl⟩
theorem tsPcrSet : Statement .tsPcrSet := ⟨by decide, by decide, by decide, .tsPcrSet, none, rfl⟩
theorem pesAnalyze : Statement .pesAnalyze := ⟨by decide, by decide, by decide, .pesAnalyze, none, rfl⟩
theorem pesGetTsPts : Statement .pesGetTsPts := ⟨by decide, by decide, by decide, .pesGetTs, some .pts, rfl⟩
theorem pesGetTsDts : Statement .pesGetTsDts := ⟨by decide, by decide, by decide, .pesGetTs, some .dts, rfl⟩
theorem pesSetTsPts : Statement .pesSetTsPts := ⟨by decide, by decide, by decide, .pesSetTs, some .pts, rfl⟩
theorem pesSetTsDts : Statement .pesSetTsDts := ⟨by decide, by decide, by decide, .pesSetTs, some .dts, rfl⟩
theorem tsFindTsPts : Statement .tsFindTsPts := ⟨by decide, by decide, by decide, .tsFindTs, some .pts, rfl⟩
theorem tsFindTsDts : Statement .tsFindTsDts := ⟨by decide, by decide, by decide, .tsFindTs, some .dts, rfl⟩
theorem tsSetTsPts : Statement .tsSetTsPts := ⟨by decide, by decide, by decide, .tsSetTs, some .pts, rfl⟩
theorem tsSetTsDts : Statement .tsSetTsDts := ⟨by decide, by decide, by decide, .tsSetTs, some .dts, rfl⟩
theorem t33Diff : Statement .t33Diff := ⟨by decide, by decide, by decide, .t33Diff, none, rfl⟩
theorem t33Add : Statement .t33Add := ⟨by decide, by decide, by decide, .t33Add, none, rfl⟩
theorem fdConfigAudio : Statement .fdConfigAudio := ⟨by decide, by decide, by decide, .fdConfig, some .audio, rfl⟩
theorem fdConfigMpeg2 : Statement .fdConfigMpeg2 := ⟨by decide, by decide, by decide, .fdConfig, some .mpeg2, rfl⟩
theorem fdConfigH264 : Statement .fdConfigH264 := ⟨by decide, by decide, by decide, .fdConfig, some .h264, rfl⟩
theorem fdPacket : Statement .fdPacket := ⟨by decide, by decide, by decide, .fdPacket, none, rfl⟩

end Sys2Proof.Laws.CommandWord
end

