-- ==== Sys2Proof/Tests/Slice0.lean ====
section
/-! SUPPORT. Tests: ill-formed words, the words of 30_encoding.md R83, vectors of 95_test_vectors.md (each test names its own),
and a witness for the hypotheses of every statement of Certificates/Slice0/Obligations.lean. -/

namespace Sys2Proof.Tests

open Sys2Proof Sys2Proof.Machine Sys2Proof.Claims

/-- A unit after reset with bytes written from buffer address 0 on and the view over them. -/
def bench (bs : List Byte) : State :=
  { State.reset with mem := (List.range bs.length).zip bs, len := BitVec.ofNat 32 bs.length }

/-- A packet filled up with `FF`. -/
def packet (bs : List Byte) : List Byte := bs ++ List.replicate (188 - bs.length) 0xFF#8

/-- What holds of the next state. -/
def after (r : Result) (p : State → Bool) : Bool :=
  match r with
  | .next t => p t
  | _ => false

theorem after_next {r : Result} {p : State → Bool} (h : after r p = true) : ∃ t, r = .next t ∧ p t = true := by
  cases r with
  | next t => exact ⟨t, rfl, h⟩
  | fault e => cases e
  | refused e => cases h

/-- A cursor on the bench's view. -/
def cursor (bs : List Byte) (raw : Bool) : State :=
  { bench bs with brLen := BitVec.ofNat 32 bs.length, brState := { bits := .fresh raw, active := true } }

/-- A detector for PID 0x100 on the bench's view. -/
def detector (kind : Kind) (bs : List Byte) : State :=
  { bench bs with fdCfg := { pid := 0x100, kind := kind, configured := true } }

/-! ## WellFormed: an ill-formed word for each check of 30_encoding.md R82 -/

theorem test_rsvd_refused : (CommandFields.ofWord 0x00001000).rsvdClear = false := by decide
theorem test_opcode_refused : (CommandFields.ofWord 0x00000003).opcodeAssigned = false := by decide
theorem test_flags_refused : (CommandFields.ofWord 0x00000122).flagsDefined = false := by decide
theorem test_config_flags_refused : (CommandFields.ofWord 0x00000450).flagsDefined = false := by decide
theorem test_kind_refused : (CommandFields.ofWord 0x00000350).kindLegal = false := by decide
theorem test_ill_formed_words_refused :
    ([0x00001000, 0x80000000, 0x00000003, 0x000000FF, 0x00000122, 0x00000210, 0x00000350, 0x00000850] : List Word).all
      (fun w => !(CommandFields.ofWord w).wellFormed) = true := by decide

/-! ## Decode: every constructor from its word of 30_encoding.md R83 -/

theorem test_decode_control :
    decode 0x00000000 = .ok .nop ∧ decode 0x00000001 = .ok .clrStatus ∧ decode 0x00000002 = .ok .softReset := by decide
theorem test_decode_bit_reader :
    decode 0x00000010 = .ok .brInit ∧ decode 0x00000110 = .ok .brInitRaw ∧ decode 0x00000011 = .ok .brBit ∧
      decode 0x00000012 = .ok .brBits ∧ decode 0x00000013 = .ok .brUe ∧ decode 0x00000014 = .ok .brSe ∧
      decode 0x00000015 = .ok .brByte := by decide
theorem test_decode_crc :
    decode 0x00000020 = .ok .crcInit ∧ decode 0x00000021 = .ok .crcSeed ∧ decode 0x00000022 = .ok .crcUpdate ∧
      decode 0x00000023 = .ok .crcCheck ∧ decode 0x00000123 = .ok .crcCheckAcc ∧ decode 0x00000024 = .ok .crcAppend ∧
      decode 0x00000025 = .ok .sectCheck := by decide
theorem test_decode_ts :
    decode 0x00000030 = .ok .tsHdr ∧ decode 0x00000031 = .ok .tsPcrGet ∧ decode 0x00000032 = .ok .tsPcrSet := by decide
theorem test_decode_pes :
    decode 0x00000038 = .ok .pesAnalyze ∧ decode 0x00000039 = .ok .pesGetTsPts ∧ decode 0x00000139 = .ok .pesGetTsDts ∧
      decode 0x0000003A = .ok .pesSetTsPts ∧ decode 0x0000013A = .ok .pesSetTsDts := by decide
theorem test_decode_ts_scan :
    decode 0x0000003B = .ok .tsFindTsPts ∧ decode 0x0000013B = .ok .tsFindTsDts ∧ decode 0x0000003C = .ok .tsSetTsPts ∧
      decode 0x0000013C = .ok .tsSetTsDts := by decide
theorem test_decode_timestamp : decode 0x00000040 = .ok .t33Diff ∧ decode 0x00000041 = .ok .t33Add := by decide
theorem test_decode_frame_detector :
    decode 0x00000050 = .ok .fdConfigAudio ∧ decode 0x00000150 = .ok .fdConfigMpeg2 ∧
      decode 0x00000250 = .ok .fdConfigH264 ∧ decode 0x00000051 = .ok .fdPacket := by decide

/-- R87: suffixes, and the one mnemonic that needs one. -/
theorem test_assembler :
    assemble .brInit (some .raw) = some .brInitRaw ∧ assemble .tsSetTs (some .dts) = some .tsSetTsDts ∧
      assemble .pesGetTs none = some .pesGetTsPts ∧ assemble .fdConfig none = none ∧ assemble .nop (some .raw) = none := by
  decide

/-! ## Vectors of 95_test_vectors.md -/

/-- V3: an unassigned opcode. -/
theorem test_V3_illegal :
    after (step (State.reset.withFetchWord 32 3)) (fun t => t.readReg .status == 0x10100#32 && t.cmd == 3#32) = true := by
  decide
/-- V9: an unmapped read. -/
theorem test_V9_unmapped :
    after (step { State.reset with host := [.read 0x074#17 4] })
      (fun t => t.readReg .status == 0x20000#32 && t.hostReply == some 0#32) = true := by decide
/-- V13: a read-only register. -/
theorem test_V13_read_only :
    after (step { State.reset with host := [.write 0x02C#17 4 5#32] }) (fun t => t == State.reset) = true := by decide
/-- R103's example: NOP clears VALID. -/
theorem test_nop_clears_valid :
    after (exec .nop { State.reset with status := { Status.zero with valid := true, stickyErr := true } })
      (fun t => t.readReg .status == 0x10000#32) = true := by decide
/-- R104's example. -/
theorem test_clr_status :
    after (exec .clrStatus { State.reset with status := { Status.zero with err := .illegal, stickyErr := true, busErr := true } })
      (fun t => t.readReg .status == 0#32) = true := by decide
/-- V11, V12. -/
theorem test_V11_soft_reset :
    after (exec .softReset { bench [0x80] with crc := 5, fdDefdur := 3003, addr := 7 })
      (fun t => t.crc == 0xFFFFFFFF#32 && t.fdDefdur == 3600#32 && t.addr == 0#32 && t.cmd == 2#32 && t.bufByte 0 == 0x80#8) =
        true := by decide
/-- R111's example and B19. -/
theorem test_br_init :
    after (exec .brInit { State.reset with addr := 0x100, len := 2 })
      (fun t => t.readReg .brState == 0x00020000#32 && t.brBase == 0x100#32 && t.brLen == 2#32) = true := by decide
theorem test_br_init_raw :
    after (exec .brInitRaw { State.reset with addr := 8190, len := 4 }) (fun t => t.readReg .status == 0x10200#32) = true := by
  decide
/-- B1, its first bit. -/
theorem test_B1_bit :
    after (exec .brBit (cursor [0x80] false)) (fun t => t.res0 == 1#64 && t.readReg .brState == 0x00020780#32) = true := by
  decide
/-- B2. -/
theorem test_B2_bits :
    after (exec .brBits { cursor [0xA5, 0x0F] false with opa := 12 })
      (fun t => t.res0 == 0xA50#64 && t.brIdx == 2#32 && t.readReg .brState == 0x0002040F#32) = true := by decide +kernel
/-- B16: the 0x03 is removed. -/
theorem test_B16_bits :
    after (exec .brBits { cursor [0x00, 0x00, 0x03, 0x80] false with opa := 24 })
      (fun t => t.res0 == 0x80#64 && t.readReg .brState == 0x00020080#32) = true := by decide +kernel
/-- B9: the largest code; B12: past the end. -/
theorem test_B9_ue :
    after (exec .brUe (cursor [0, 0, 0, 1, 0xFF, 0xFF, 0xFF, 0xFE] false))
      (fun t => t.res0 == 0xFFFFFFFE#64 && t.readReg .status == 1#32 && t.readReg .brState == 0x000201FE#32) = true := by
  decide +kernel
theorem test_B12_ue :
    after (exec .brUe (cursor [0] false))
      (fun t => t.res0 == 0xFFFFFFFF#64 && t.readReg .status == 0x60#32 && t.readReg .brState == 0x00062000#32) = true := by
  decide +kernel
/-- B10, B11. -/
theorem test_B10_se :
    after (exec .brSe (cursor [0x28] false))
      (fun t => t.res0 == 0xFFFFFFFFFFFFFFFE#64 && t.readReg .brState == 0x00020328#32) = true := by decide +kernel
theorem test_B11_se :
    after (exec .brSe (cursor [0, 0, 0, 0] false))
      (fun t => t.res0 == 0xFFFFFFFF80000000#64 && t.readReg .status == 0x20#32) = true := by decide +kernel
/-- B15, its third and fourth bytes. -/
theorem test_B15_byte :
    after (exec .brByte { cursor [0, 0, 3, 3] false with
        brIdx := 2, brState := { bits := { BitCursor.fresh false with zeros := 2 }, active := true } })
      (fun t => t.res0 == 3#64 && t.brIdx == 4#32 && t.readReg .brState == 0x00020003#32) = true := by decide
/-- The bytes of vector PAT without its CRC, and with it. -/
def pat12 : List Byte := [0x00, 0xB0, 0x0D, 0x00, 0x01, 0xC1, 0x00, 0x00, 0x00, 0x01, 0xE1, 0x00]
def pat16 : List Byte := pat12 ++ [0xE8, 0xF9, 0x5E, 0x7D]
/-- C2. -/
theorem test_C2_seed :
    after (exec .crcSeed { State.reset with opa := 0x123456789ABCDEF0 }) (fun t => t.crc == 0x9ABCDEF0#32) = true := by decide
theorem test_C1_init :
    after (exec .crcInit { State.reset with crc := 7 }) (fun t => t.crc == 0xFFFFFFFF#32 && t.res0 == 0xFFFFFFFF#64) = true := by
  decide
/-- C3, C15, and C5 for the accumulated check. -/
theorem test_C3_update :
    after (exec .crcUpdate (bench pat12)) (fun t => t.crc == 0xE8F95E7D#32 && t.readReg .status == 0#32) = true := by
  decide +kernel
theorem test_C15_check :
    after (exec .crcCheck (bench (pat16.set 5 0xC0))) (fun t => t.res0 == 0xF9AC87EE#64 && t.readReg .status == 0#32) =
      true := by decide +kernel
theorem test_C5_check_acc :
    after (exec .crcCheckAcc { bench pat16 with addr := 8, len := 8, crc := 0x838257F7 })
      (fun t => t.res0 == 0#64 && t.status.valid && t.crc == 0x838257F7#32) = true := by decide +kernel
/-- C10, C13. -/
theorem test_C10_append :
    after (exec .crcAppend (bench pat12)) (fun t => t.bytes 12 4 == [0xE8, 0xF9, 0x5E, 0x7D] && t.res0 == 0xE8F95E7D#64) =
      true := by decide +kernel
theorem test_C13_append_range :
    after (exec .crcAppend { State.reset with addr := 8188, len := 1 }) (fun t => t.readReg .status == 0x10200#32) = true := by
  decide
/-- K7, K5. -/
theorem test_K7_mismatch :
    after (exec .sectCheck (bench (pat16.set 0 2)))
      (fun t => t.readReg .status == 0#32 && t.res0 == 0#64 && t.res1 == 0x00000D025F6F7E74#64) = true := by decide +kernel
theorem test_K1_valid :
    after (exec .sectCheck (bench (pat16 ++ [0xFF, 0xFF])))
      (fun t => t.readReg .status == 1#32 && t.res0 == 16#64 && t.res1 == 0x00000D0000000000#64) = true := by decide +kernel
/-- P0 of part 2.5. -/
def p0 : List Byte := packet [0x47, 0x41, 0x00, 0x30, 0x07, 0x10, 0x00, 0x00, 0x00, 0x01, 0x7E, 0x00]
/-- H8, H5. -/
theorem test_H8_header :
    after (exec .tsHdr (bench ([0x47, 0x60, 0x21, 0xDF] ++ List.replicate 184 0)))
      (fun t => t.readReg .status == 1#32 && t.res0 == 0xFD6021#64 && t.res1 == 0x0B804#64) = true := by decide +kernel
theorem test_H5_header :
    after (exec .tsHdr (bench ([0x47, 0x01, 0x00, 0x20, 0xB8] ++ List.replicate 183 0)))
      (fun t => t.readReg .status == 4#32 && t.res0 == 0x020100#64 && t.res1 == 0x000BC#64) = true := by decide +kernel
/-- R1, R6 of part 2.6. -/
theorem test_R1_pcr_get :
    after (exec .tsPcrGet (bench (p0.take 12))) (fun t => t.status.valid && t.res0 == 600#64 && t.res1 == 2#64) = true := by
  decide +kernel
/-- R3. -/
theorem test_R3_pcr_set :
    after (exec .tsPcrSet { bench (p0.take 12) with opa := 0x25800000707 })
      (fun t => t.bytes 6 6 == [0x00, 0x00, 0x00, 0x02, 0xFF, 0x2B] && t.res0 == 1799#64) = true := by decide +kernel
/-- A8, A10. -/
theorem test_A8_analyze :
    after (exec .pesAnalyze (bench [0, 0, 1, 0xC0, 0, 0, 0x40, 0, 0x31, 0, 1, 0, 1, 0x11, 0, 1, 0, 1]))
      (fun t => t.res0 == 2#64 && t.res1 == 18#64 && t.readReg .status == 1#32) = true := by decide +kernel
theorem test_A10_analyze :
    after (exec .pesAnalyze (bench ([0, 0, 1, 0xC0, 0, 0] ++ List.replicate 17 0xFF ++ [0x0F])))
      (fun t => t.res0 == 1#64 && t.res1 == 0#64 && t.readReg .status == 4#32) = true := by decide +kernel
/-- H19 and H14 of part 2.8. -/
def h19 : List Byte :=
  [0x00, 0x00, 0x01, 0xE0, 0x00, 0x00, 0x80, 0xC0, 0x0A, 0x31, 0x00, 0x03, 0x5F, 0x91, 0x11, 0x00, 0x01, 0x1F, 0x41]
def h14 : List Byte := [0x00, 0x00, 0x01, 0xE0, 0x00, 0x00, 0x80, 0x80, 0x05, 0x21, 0x00, 0x01, 0x00, 0x01]
/-- T1, T2. -/
theorem test_T1_get_pts : after (exec .pesGetTsPts (bench h19)) (fun t => t.status.valid && t.res0 == 45000#64) = true := by
  decide +kernel
theorem test_T2_get_dts : after (exec .pesGetTsDts (bench h19)) (fun t => t.status.valid && t.res0 == 4000#64) = true := by
  decide +kernel
/-- T6, T9. -/
theorem test_T6_set_pts :
    after (exec .pesSetTsPts { bench h14 with opa := 0x123456789 })
      (fun t => t.bytes 9 5 == [0x29, 0x8D, 0x15, 0xCF, 0x13] && t.res0 == 0x123456789#64) = true := by decide +kernel
theorem test_T9_set_dts :
    after (exec .pesSetTsDts { bench h14 with opa := 7 })
      (fun t => t.mem == (bench h14).mem && t.res0 == absent64 && t.readReg .status == 0#32) = true := by decide +kernel
/-- TP of part 2.9. -/
def tp : List Byte := packet [0x47, 0x01, 0x00, 0x10] ++ packet ([0x47, 0x41, 0x00, 0x10] ++ h19)
/-- F1, F2. -/
theorem test_F1_find_pts :
    after (exec .tsFindTsPts (bench tp)) (fun t => t.res0 == 45000#64 && t.res1 == 188#64) = true := by decide +kernel
theorem test_F2_find_dts :
    after (exec .tsFindTsDts (bench tp)) (fun t => t.res0 == 4000#64 && t.res1 == 188#64) = true := by decide +kernel
/-- F7, F6. -/
theorem test_F7_set_pts :
    after (exec .tsSetTsPts { bench tp with opa := 0x200000007 })
      (fun t => t.bytes 201 5 == [0x31, 0x00, 0x01, 0x00, 0x0F] && t.res0 == 7#64) = true := by decide +kernel
theorem test_F6_set_dts :
    after (exec .tsSetTsDts { bench tp with opa := 0 })
      (fun t => t.bytes 206 5 == [0x11, 0x00, 0x01, 0x00, 0x01] && t.res1 == 188#64) = true := by decide +kernel
/-- D2, D4. -/
theorem test_D2_diff :
    after (exec .t33Diff { State.reset with opa := 5, opb := 0x1FFFFFFF6 })
      (fun t => t.res0 == 0xFFFFFFFFFFFFFFF1#64 && t.res1 == 0x1FFFFFFF1#64) = true := by decide
theorem test_D4_diff :
    after (exec .t33Diff { State.reset with opa := 0x100000000, opb := 0 })
      (fun t => t.res0 == 0xFFFFFFFF00000000#64 && t.res1 == 0x100000000#64) = true := by decide
/-- D11. -/
theorem test_D11_add :
    after (exec .t33Add { State.reset with opa := 0x1FFFFFFFF, opb := 0x1FFFFFFFF })
      (fun t => t.res0 == 0x1FFFFFFFE#64) = true := by decide
/-- E3, E2, R191's example. -/
theorem test_E3_config :
    after (exec .fdConfigAudio { State.reset with opa := 0x1FFF }) (fun t => t.readReg .fdCfg == 0x80001FFF#32) = true := by
  decide
theorem test_E2_config :
    after (exec .fdConfigMpeg2 { State.reset with opa := 0x2000 })
      (fun t => t.readReg .status == 0x10400#32 && t.readReg .fdCfg == 0#32) = true := by decide
theorem test_R191_config :
    after (exec .fdConfigH264 { State.reset with opa := 0x100 }) (fun t => t.readReg .fdCfg == 0x80020100#32) = true := by
  decide
/-- H1 of part 2.12: PES header, AUD, SPS and IDR slice. -/
def h1 : List Byte :=
  [0x47, 0x41, 0x00, 0x30, 0x8F, 0x00] ++ List.replicate 142 0xFF ++
    [0, 0, 1, 0xE0, 0, 0, 0x80, 0x80, 0x05, 0x21, 0x00, 0x05, 0xBF, 0x21, 0, 0, 0, 1, 0x09, 0xF0, 0, 0, 0, 1, 0x67, 0x64,
      0x00, 0x1F, 0xAC, 0xDA, 0x05, 0x07, 0xE4, 0, 0, 0, 1, 0x65, 0xB8, 0x60]
/-- J1. -/
theorem test_J1_h264 :
    after (exec .fdPacket (detector .h264 h1))
      (fun t => t.readReg .status == 0x19#32 && t.readReg .fdResult == 0xB90B#32 && t.readReg .fdH264 == 6#32 &&
        t.fdLog2mfn == 4#32 && t.fdSamples == [90000#33]) = true := by decide +kernel
/-- M4 of part 2.11 after M3: G4. -/
def m4 : List Byte := packet [0x47, 0x01, 0x00, 0x13, 0x01, 0x00, 0x00, 0x18]
theorem test_G4_mpeg2 :
    after (exec .fdPacket { detector .mpeg2 m4 with fdScanner := 0xFFFF0000 })
      (fun t => t.readReg .status == 9#32 && t.readReg .fdResult == 0x050D#32) = true := by decide +kernel

/-! ## Witnesses: a state and operands that meet the hypotheses of each statement, clause by clause -/

theorem witness_LegalIffFourChecks : (CommandFields.ofWord 0x00000350).wellFormed = false := by decide
theorem witness_DecodeEncodeAgree : decode 0x00000250 = .ok .fdConfigH264 := by decide
theorem witness_HostLinesDoTheirExpansion :
    State.reset.params.legal = true ∧ 8190 + ([1, 2] : List Byte).length ≤ State.reset.params.bufSize ∧
      Reg.opbHi ∈ writableRegisters ∧ Reg.status ∉ writableRegisters ∧ Reg.status ≠ .cmd ∧
      (8190 + 2 ≤ State.reset.params.bufSize ∧ 1 < 2) := by decide
theorem witness_StepRunsDecodedCommand :
    decode 0x00000051 = .ok .fdPacket ∧ decodeTableWord 32 0x51 = some .fdPacket := by decide
theorem witness_EveryStepAnswersNext : State.reset.host = [] := by decide
theorem witness_HostReadsRegister :
    registersInOrder[28]? = some .fdDefdur ∧ (cursor [1] false).brState.bits.nbits ≤ 8 ∧
      (cursor [1] false).brState.bits.zeros ≤ 2 := by decide
theorem witness_BufferAccessLittleEndian :
    State.reset.params.legal = true ∧ 8188 % 4 = 0 ∧ 8188 + 4 ≤ State.reset.params.bufSize ∧ 8190 % 2 = 0 ∧
      8190 + 2 ≤ State.reset.params.bufSize ∧ 8191 % 1 = 0 ∧ 8191 + 1 ≤ State.reset.params.bufSize := by decide
theorem witness_HostWritesRegister :
    (registersInOrder[10]? = some .opbHi ∧ Reg.opbHi ∈ writableRegisters) ∧
      (registersInOrder[4]? = some .status ∧ Reg.status ∉ writableRegisters ∧ Reg.status ≠ .cmd) := by decide
theorem witness_ErroneousAccessSetsBuserr :
    ¬legalAccess State.reset.params.bufSize 0x00074#17 4 ∧ ¬legalAccess State.reset.params.bufSize 0x00070#17 2 ∧
      ¬legalAccess State.reset.params.bufSize 0x11FFF#17 2 ∧ ¬legalAccess State.reset.params.bufSize 0x12000#17 1 := by
  unfold legalAccess
  decide
theorem witness_ErrorsAndTheirPriority :
    errorOf State.reset (commandOf 3) = some .illegal ∧
      errorOf { State.reset with opa := 40 } (commandOf 0x12) = some .notConfigured ∧
      errorOf { cursor [1] false with opa := 33 } (commandOf 0x12) = some .badOperand ∧
      errorOf { State.reset with len := 8193 } (commandOf 0x30) = some .range ∧
      errorOf { State.reset with len := 8189 } (commandOf 0x24) = some .range ∧
      errorOf { State.reset with len := 8188 } (commandOf 0x24) = none := by decide
theorem witness_StatusWriters :
    (∃ t, exec .tsHdr State.reset = .next t ∧ t.status.needMore = true) ∧
      (∃ t, exec .sectCheck (bench [0, 0, 3, 0, 0, 0]) = .next t ∧ t.status.malformed = true) ∧
      (∃ t, exec .fdPacket (detector .audio p0) = .next t ∧ (t.status.newFrame && t.status.indepFrame) = true) ∧
      (∃ t, exec .fdPacket (detector .audio p0) = .next t ∧ t.status.valid = true) ∧
      (∃ t, exec .brUe (cursor [0, 0, 0] false) = .next t ∧ (t.status.brOvf && t.status.brEod) = true) ∧
      (∃ t, exec .brBit (cursor [0] false) = .next t ∧ (t.status.err == .noError) = true) ∧
      ∃ t, exec .crcInit { State.reset with status := { Status.zero with busErr := true } } = .next t ∧
        (t.status.valid && t.status.busErr) = true :=
  ⟨after_next (by decide +kernel), after_next (by decide +kernel), after_next (by decide +kernel),
    after_next (by decide +kernel), after_next (by decide +kernel), after_next (by decide +kernel),
    after_next (by decide +kernel)⟩
theorem witness_RegisterWriters :
    (∃ t, exec .nop State.reset = .next t) ∧ Instr.nop ∉ brInits ∧ Instr.nop ∉ brReads ∧ Instr.nop ∉ fdConfigs ∧
      Instr.brByte ∈ brReads ∧ Instr.brInitRaw ∈ brInits ∧ Instr.fdConfigH264 ∈ fdConfigs :=
  ⟨⟨_, rfl⟩, by decide⟩
theorem witness_BufferWriters :
    (∃ t, exec .crcAppend { bench [1, 2, 3, 4] with len := 0 } = .next t ∧
        (t.bufByte 3 != (bench [1, 2, 3, 4]).bufByte 3) = true) ∧
      (∃ t, exec .tsPcrSet { bench (p0.take 12) with opa := 5 } = .next t ∧
        (t.bufByte 11 != (bench (p0.take 12)).bufByte 11) = true) ∧
      (∃ t, exec .pesSetTsPts { bench h14 with opa := 7 } = .next t ∧ (t.bufByte 13 != (bench h14).bufByte 13) = true) ∧
      ∃ t, exec .tsSetTsDts { bench tp with opa := 0 } = .next t ∧ (t.bufByte 209 != (bench tp).bufByte 209) = true :=
  ⟨after_next (by decide +kernel), after_next (by decide +kernel), after_next (by decide +kernel),
    after_next (by decide +kernel)⟩
theorem witness_NoReadOutsideTheView :
    besidesBuffer (bench [1]) = besidesBuffer ((bench [1]).setByte 5 9) ∧
      (∀ a, mayRead (bench [1]) .crcUpdate a → (bench [1]).bufByte a = ((bench [1]).setByte 5 9).bufByte a) ∧
      (∃ t, exec .crcUpdate (bench [1]) = .next t) ∧ ∃ t, exec .crcUpdate ((bench [1]).setByte 5 9) = .next t := by
  refine ⟨rfl, fun a h => ?_, ⟨_, rfl⟩, ⟨_, rfl⟩⟩
  have h' : 0 ≤ a ∧ a < 0 + 1 := h
  rw [State.bufByte_setByte, if_neg (by omega)]
theorem witness_BrInitStartsCursor :
    inRange { State.reset with addr := 8190, len := 2 } ∧ ¬inRange { State.reset with addr := 8190, len := 3 } := by
  unfold inRange
  decide
theorem witness_BrBitTakesNextBit :
    (cursor [0x80] false).brState.active = true ∧ (cursor [0x80] false).brState.bits.nbits = 0 ∧
      (∃ t, exec .brBit (cursor [0x80] false) = .next t ∧ (t.brState.active && t.brState.bits.nbits == 7) = true) ∧
      State.reset.brState.active = false := ⟨by decide, by decide, after_next (by decide), by decide⟩
theorem witness_BrBitsTakesNumber :
    (cursor [1] false).brState.active = true ∧ { cursor [1] false with opa := 32 }.opa.toNat ≤ 32 ∧
      32 < { cursor [1] false with opa := 33 }.opa.toNat ∧ State.reset.brState.active = false := by decide
theorem witness_BrUeTakesExpGolomb :
    (cursor [0x80] false).brState.active = true ∧ ueOf (brBitsLeft (cursor [0x80] false)) = (0, 1, 0, false) ∧
      ueOf (brBitsLeft (cursor [0, 0, 0, 0] false)) = (32, 32, 0xFFFFFFFF, true) := by decide +kernel
theorem witness_BrSeTakesSignedExpGolomb :
    (cursor [0x28] false).brState.active = true ∧ ueOf (brBitsLeft (cursor [0x28] false)) = (2, 5, 4, false) ∧
      ueOf (brBitsLeft (cursor [0x40] false)) = (1, 3, 1, false) ∧
      (ueOf (brBitsLeft (cursor [0, 0, 0, 0] false))).2.2.2 = true := by decide +kernel
theorem witness_BrByteFetchesNextByte :
    (cursor [1] true).brState.active = true ∧ fetched false 2 [3#8, 3#8] = (3#8, 2, 0) ∧
      State.reset.brState.active = false := by decide
theorem witness_BrBytesDeliverTheView :
    inRange (bench [0, 0, 3, 1]) ∧ (∃ t, exec .brInit (bench [0, 0, 3, 1]) = .next t) ∧
      ∃ t, exec .brInitRaw (bench [0, 0, 3, 1]) = .next t := ⟨by unfold inRange; decide, ⟨_, rfl⟩, ⟨_, rfl⟩⟩
theorem witness_BrCursorReadsLive :
    State.reset.params.legal = true ∧ 8191 < State.reset.params.bufSize ∧
      0 < { cursor [1, 2] false with brIdx := 1 }.brBase.toNat + { cursor [1, 2] false with brIdx := 1 }.brIdx.toNat ∧
      (∃ t, exec .brByte { cursor [1, 2] false with brIdx := 1 } = .next t) ∧
      { cursor [1, 2] false with brIdx := 1 }.brIdx.toNat + 0 < { cursor [1, 2] false with brIdx := 1 }.brLen.toNat :=
  ⟨by decide, by decide, by decide, ⟨_, rfl⟩, by decide⟩
theorem witness_CrcRegisterCommands :
    inRange { State.reset with len := 8192 } ∧ ¬inRange { State.reset with len := 8193 } := by
  unfold inRange
  decide
theorem witness_CrcAppendWritesBigEndian :
    { State.reset with len := 8188 }.addr.toNat + { State.reset with len := 8188 }.len.toNat + 4 ≤
        { State.reset with len := 8188 }.params.bufSize ∧
      { State.reset with len := 8189 }.params.bufSize <
        { State.reset with len := 8189 }.addr.toNat + { State.reset with len := 8189 }.len.toNat + 4 := by decide
theorem witness_SectCheckCases :
    inRange (bench [0, 0]) ∧ (bench [0, 0]).len.toNat < 3 ∧
      (inRange (bench [0, 0xB0, 1]) ∧ 3 ≤ (bench [0, 0xB0, 1]).len.toNat ∧
        (bench [0, 0xB0, 1]).len.toNat < 3 + sectLen (bench [0, 0xB0, 1])) ∧
      (3 + sectLen (bench [0, 0xB0, 3, 0, 0, 0]) ≤ (bench [0, 0xB0, 3, 0, 0, 0]).len.toNat ∧
        sectLen (bench [0, 0xB0, 3, 0, 0, 0]) < 4) ∧
      (3 + sectLen (bench pat16) ≤ (bench pat16).len.toNat ∧ 4 ≤ sectLen (bench pat16)) ∧
      ¬inRange { State.reset with len := 8193 } := by
  unfold inRange
  decide +kernel
theorem witness_AppendedSectionPasses :
    (bench pat12).params.legal = true ∧
      (bench pat12).addr.toNat + (bench pat12).len.toNat + 4 ≤ (bench pat12).params.bufSize ∧
      (∃ t, exec .crcAppend (bench pat12) = .next t) ∧ 3 ≤ (bench pat12).len.toNat ∧
      sectLen (bench pat12) = (bench pat12).len.toNat + 1 :=
  ⟨by decide, by decide, ⟨_, rfl⟩, by decide, by decide +kernel⟩
theorem witness_SingleBitErrorDetected :
    inRange (bench [0xFF, 0xFF, 0xFF, 0xFF]) ∧ 3 < (bench [0xFF, 0xFF, 0xFF, 0xFF]).len.toNat ∧
      (∃ t, exec .crcCheck (bench [0xFF, 0xFF, 0xFF, 0xFF]) = .next t ∧ t.status.valid = true) ∧
      ∃ t, exec .crcCheckAcc (bench [0xFF, 0xFF, 0xFF, 0xFF]) = .next t ∧ t.status.valid = true :=
  ⟨by unfold inRange; decide, by decide, after_next (by decide +kernel), after_next (by decide +kernel)⟩
theorem witness_TsHdrFields :
    inRange (bench p0) ∧ ¬(188 ≤ (bench p0).len.toNat ∧
        (byteAt (bench p0) 0 ≠ 0x47 ∨ (adaptAt (bench p0) 0 = true ∧ 183 < byteAt (bench p0) 4))) ∧
      (188 ≤ (bench (p0.set 4 184)).len.toNat ∧ byteAt (bench (p0.set 4 184)) 0 = 0x47 ∧
        adaptAt (bench (p0.set 4 184)) 0 = true ∧ 183 < byteAt (bench (p0.set 4 184)) 4) := by
  unfold inRange
  decide +kernel
theorem witness_TsPcrGetReads :
    inRange (bench (p0.take 12)) ∧ pcrFlag (bench (p0.take 12)) = true ∧ 12 ≤ (bench (p0.take 12)).len.toNat ∧
      ¬(pcrFlag (bench (p0.take 11)) = true ∧ 12 ≤ (bench (p0.take 11)).len.toNat) ∧
      ¬inRange { State.reset with len := 8193 } := by
  unfold inRange
  decide +kernel
theorem witness_TsPcrSetWrites :
    inRange (bench (p0.take 12)) ∧ pcrFlag (bench (p0.take 12)) = true ∧ 12 ≤ (bench (p0.take 12)).len.toNat ∧
      ¬(pcrFlag (bench ((p0.take 12).set 4 6)) = true ∧ 12 ≤ (bench ((p0.take 12).set 4 6)).len.toNat) := by
  unfold inRange
  decide +kernel
theorem witness_PesAnalyzeClassifies :
    inRange (bench h14) ∧ analysis (byteAt (bench h14)) (bench h14).len.toNat = (3, 14, false) ∧
      analysis (byteAt (bench (h14.take 13))) (bench (h14.take 13)).len.toNat = (0, 0, false) ∧
      analysis (byteAt (bench [0, 0, 1, 0xC0, 0, 0, 0])) (bench [0, 0, 1, 0xC0, 0, 0, 0]).len.toNat = (1, 0, false) ∧
      analysis (byteAt (bench [0, 0, 1, 0xC0, 0, 0, 0xFF, 0x0F])) (bench [0, 0, 1, 0xC0, 0, 0, 0xFF, 0x0F]).len.toNat =
        (2, 8, true) := by
  unfold inRange
  decide +kernel
theorem witness_PesGetTsExtracts :
    inRange (bench h19) ∧ hasStamp (bench h14) .pts 0 (bench h14).len.toNat ∧
      hasStamp (bench h19) .dts 0 (bench h19).len.toNat ∧ ¬hasStamp (bench (h19.take 18)) .dts 0 (bench (h19.take 18)).len.toNat := by
  unfold inRange hasStamp
  decide +kernel
theorem witness_PesSetTsRoundTrips :
    inRange (bench h14) ∧ hasStamp (bench h14) .pts 0 (bench h14).len.toNat ∧
      hasStamp (bench h19) .dts 0 (bench h19).len.toNat ∧ ¬hasStamp (bench h14) .dts 0 (bench h14).len.toNat := by
  unfold inRange hasStamp
  decide +kernel
theorem witness_TsFindTsFindsFirst :
    inRange (bench (tp.take 207)) ∧ firstCarrier (bench (tp.take 207)) .pts 1 ∧ ∀ k, ¬carrier (bench []) .pts k := by
  refine ⟨by unfold inRange; decide +kernel, ?_, fun k h => absurd h.1 (Nat.not_lt_zero _)⟩
  simp only [firstCarrier, carrier, hasStamp]
  decide +kernel
theorem witness_TsSetTsWritesFirst :
    inRange (bench (tp.take 211)) ∧ firstCarrier (bench (tp.take 211)) .dts 1 ∧ ∀ k, ¬carrier (bench []) .dts k := by
  refine ⟨by unfold inRange; decide +kernel, ?_, fun k h => absurd h.1 (Nat.not_lt_zero _)⟩
  simp only [firstCarrier, carrier, hasStamp]
  decide +kernel
theorem witness_TsSetThenFindAgree :
    ∃ t, exec .tsSetTsPts { bench (tp.take 207) with opa := 7 } = .next t ∧ t.status.valid = true :=
  after_next (by decide +kernel)
theorem witness_FdConfigClearsDetector :
    { State.reset with opa := 0x1FFF }.opa.toNat ≤ 0x1FFF ∧ 0x1FFF < { State.reset with opa := 0x2000 }.opa.toNat := by decide
/-- A packet of the detector's stream with payload `p` from offset 4 on, no payload start. -/
def cont (p : List Byte) : List Byte := packet ([0x47, 0x01, 0x00, 0x10] ++ p)
/-- A continuation packet whose adaptation field leaves exactly the payload given. -/
def late (p : List Byte) : List Byte :=
  [0x47, 0x01, 0x00, 0x30, BitVec.ofNat 8 (183 - p.length), 0x00] ++ List.replicate (182 - p.length) 0xFF ++ p
theorem witness_FdPacketPassesOver :
    (bench []).fdCfg.configured = false ∧
      ((detector .audio []).fdCfg.configured = true ∧ inRange (detector .audio (p0.take 187)) ∧
        (detector .audio (p0.take 187)).len.toNat < 188) ∧
      ¬inRange { detector .audio [] with len := 8193 } ∧
      (packetReady (detector .audio (p0.set 0 0x46)) ∧ byteAt (detector .audio (p0.set 0 0x46)) 0 ≠ 0x47) ∧
      packetReady (detector .audio (p0.set 2 1)) ∧ byteAt (detector .audio (p0.set 2 1)) 0 = 0x47 ∧
      ¬accepted (detector .audio (p0.set 2 1)) := by
  unfold packetReady accepted inRange
  decide +kernel
theorem witness_FdPacketProcesses :
    ∀ k : Kind, packetReady (detector k p0) ∧ accepted (detector k p0) ∧ (detector k p0).fdCfg.kind = k := by
  unfold packetReady accepted inRange
  intro k
  cases k <;> decide +kernel
/-- A command's next state, without evaluating the command. -/
theorem exec_next (i : Instr) (s : State) : ∃ t, exec i s = .next t := exec_eq_command i s ▸ command_next _ _ _
theorem witness_Mpeg2FirstPicture :
    (packetReady (detector .mpeg2 (late [0, 0, 1, 0, 0, 8])) ∧ accepted (detector .mpeg2 (late [0, 0, 1, 0, 0, 8])) ∧
      (∃ t, exec .fdPacket (detector .mpeg2 (late [0, 0, 1, 0, 0, 8])) = .next t) ∧
      scans (detector .mpeg2 (late [0, 0, 1, 0, 0, 8])) 185 ∧ scannerAt (detector .mpeg2 (late [0, 0, 1, 0, 0, 8])) 185 = 0x100 ∧
      ∀ q < 185, scans (detector .mpeg2 (late [0, 0, 1, 0, 0, 8])) q →
        scannerAt (detector .mpeg2 (late [0, 0, 1, 0, 0, 8])) q ≠ 0x100) ∧
    ∀ pos, scans (detector .mpeg2 (late [0, 0, 1, 9])) pos → scannerAt (detector .mpeg2 (late [0, 0, 1, 9])) pos ≠ 0x100 := by
  refine ⟨⟨?_, ?_, exec_next _ _, ?_, ?_, ?_⟩, ?_⟩
  · unfold packetReady inRange; decide +kernel
  · unfold accepted; decide +kernel
  · unfold scans; decide +kernel
  · decide +kernel
  · unfold scans; decide +kernel
  · have h : ∀ pos < 188, startAt (detector .mpeg2 (late [0, 0, 1, 9])) ≤ pos →
        scannerAt (detector .mpeg2 (late [0, 0, 1, 9])) pos ≠ 0x100 := by decide +kernel
    exact fun pos hp => h pos hp.2 hp.1
theorem witness_LookaheadList :
    endsLookahead (detector .mpeg2 p0) 1 ∧
      (¬endsLookahead (detector .mpeg2 (p0 ++ cont [])) 1 ∧ endsLookahead (detector .mpeg2 (p0 ++ cont [])) 2) ∧
      endsLookahead (detector .mpeg2 (p0 ++ p0)) 1 := by
  unfold endsLookahead
  decide +kernel
theorem witness_H264PassesOver :
    packetReady (detector .h264 (late [0, 0, 1, 9, 0xF0])) ∧ accepted (detector .h264 (late [0, 0, 1, 9, 0xF0])) ∧
      (∀ pos, nalAt (detector .h264 (late [0, 0, 1, 9, 0xF0])) pos → nalType (detector .h264 (late [0, 0, 1, 9, 0xF0])) pos = 9) ∧
      nalAt (detector .h264 (late [0, 0, 1, 9, 0xF0])) 186 ∧ ∃ t, exec .fdPacket (detector .h264 (late [0, 0, 1, 9, 0xF0])) = .next t := by
  refine ⟨?_, ?_, ?_, ?_, exec_next _ _⟩
  · unfold packetReady inRange; decide +kernel
  · unfold accepted; decide +kernel
  · have h : ∀ pos < 188, startAt (detector .h264 (late [0, 0, 1, 9, 0xF0])) ≤ pos →
        scannerAt (detector .h264 (late [0, 0, 1, 9, 0xF0])) pos / 256 = 1 →
        nalType (detector .h264 (late [0, 0, 1, 9, 0xF0])) pos = 9 := by decide +kernel
    exact fun pos hp => h pos hp.1.2 hp.1.1 hp.2
  · unfold nalAt scans; decide +kernel
/-- The point past an SPS, none where it runs past the packet. -/
def pointPast (s : State) (a : H264Point) (r : SpsFields × Reader HeaderSource) : Option H264Point :=
  if r.2.src.left = true then none
  else
    some
      { pos := r.2.src.pos, scanner := a.next s, log2mfn := r.1.log2mfn
        flags :=
          { a.flags with
            gotSps := true, frameMbsOnly := r.1.frameMbsOnly, sepColourPlane := r.1.sepColourPlane } }
/-- The point after `a`, none where the scan of the packet ends. -/
def pointAfter (s : State) (a : H264Point) : Option H264Point :=
  if ¬a.pos < 188 then none
  else if ¬a.next s / 256 = 1 then some { a with pos := a.pos + 1, scanner := a.next s }
  else if nalType s a.pos = 9 then
    some { a with pos := a.pos + 1, scanner := a.next s, flags := { a.flags with gotAud := true } }
  else if nalType s a.pos = 7 then pointPast s a (spsReadAt s a.pos)
  else if (nalType s a.pos = 1 ∨ nalType s a.pos = 5) ∧ a.flags.gotAud = true ∧ a.flags.gotSps = true then none
  else some { a with pos := a.pos + 1, scanner := a.next s }
theorem reaches_pointAfter {s : State} {a b : H264Point} (h : H264Reaches s a) (hb : pointAfter s a = some b) :
    H264Reaches s b := by
  unfold pointAfter at hb
  by_cases h1 : a.pos < 188
  · rw [if_neg (not_not.mpr h1)] at hb
    by_cases h2 : a.next s / 256 = 1
    · rw [if_neg (not_not.mpr h2)] at hb
      by_cases h3 : nalType s a.pos = 9
      · rw [if_pos h3] at hb
        cases hb
        exact .delimiter h ⟨h1, h2⟩ h3
      · rw [if_neg h3] at hb
        by_cases h4 : nalType s a.pos = 7
        · rw [if_pos h4] at hb
          generalize hr : spsReadAt s a.pos = r at hb
          obtain ⟨p, H⟩ := r
          unfold pointPast at hb
          by_cases h5 : H.src.left = true
          · rw [if_pos h5] at hb; cases hb
          · rw [if_neg h5] at hb
            cases hb
            exact .spsInside h ⟨h1, h2⟩ h4 hr (by simpa using h5)
        · rw [if_neg h4] at hb
          split at hb
          · cases hb
          · next h5 => cases hb; exact .passesOver h h1 fun _ => ⟨h4, h3, h5⟩
    · rw [if_pos h2] at hb
      cases hb
      exact .passesOver h h1 fun hn => absurd hn.2 h2
  · rw [if_pos h1] at hb; cases hb
/-- `n` points on from the start of the scan. -/
def pointsOn (s : State) : Nat → Option H264Point
  | 0 => some { pos := startAt s, scanner := scannerBefore s, flags := s.fdH264, log2mfn := s.fdLog2mfn }
  | n + 1 => (pointsOn s n).bind (pointAfter s)
theorem reaches_pointsOn {s : State} {n : Nat} {a : H264Point} (h : pointsOn s n = some a) : H264Reaches s a := by
  induction n generalizing a with
  | zero => cases h; exact .start
  | succ n ih =>
    obtain ⟨b, hb, hab⟩ := Option.bind_eq_some_iff.mp h
    exact reaches_pointAfter (ih hb) hab
theorem pointsOn_reaches {s : State} {b : H264Point} (h : H264Reaches s b) : ∃ n, pointsOn s n = some b := by
  induction h with
  | start => exact ⟨0, rfl⟩
  | @passesOver a _ h1 h2 ih =>
    obtain ⟨n, hn⟩ := ih
    refine ⟨n + 1, ?_⟩
    rw [pointsOn, hn, Option.bind_some, pointAfter, if_neg (not_not.mpr h1)]
    by_cases h3 : a.next s / 256 = 1
    · obtain ⟨h4, h5, h6⟩ := h2 ⟨h1, h3⟩
      rw [if_neg (not_not.mpr h3), if_neg h5, if_neg h4]
      exact if_neg h6
    · rw [if_pos h3]
  | @delimiter a _ h1 h2 ih =>
    obtain ⟨n, hn⟩ := ih
    exact ⟨n + 1, by
      rw [pointsOn, hn, Option.bind_some, pointAfter, if_neg (not_not.mpr h1.1), if_neg (not_not.mpr h1.2), if_pos h2]⟩
  | @spsInside a p H _ h1 h2 h3 h4 ih =>
    obtain ⟨n, hn⟩ := ih
    exact ⟨n + 1, by
      rw [pointsOn, hn, Option.bind_some, pointAfter, if_neg (not_not.mpr h1.1), if_neg (not_not.mpr h1.2),
        if_neg (by rw [h2]; decide), if_pos h2, h3, pointPast, if_neg (by rw [h4]; decide)]⟩
theorem pointsOn_none {s : State} {n : Nat} (h : pointsOn s n = none) (k : Nat) : pointsOn s (n + k) = none := by
  induction k with
  | zero => exact h
  | succ k ih => rw [Nat.add_succ, pointsOn, ih, Option.bind_none]
/-- Where the scan of H1 meets its SPS, and where, past it, its slice. -/
def h1Sps : H264Point :=
  { pos := 172, scanner := 1, flags := { FdH264.zero with gotAud := true }, log2mfn := 0 }
def h1Slice : H264Point :=
  { pos := 185, scanner := 1, log2mfn := 4
    flags := { gotAud := true, gotSps := true, frameMbsOnly := true, sepColourPlane := false } }
theorem h1_reaches : H264Reaches (detector .h264 h1) h1Sps ∧ H264Reaches (detector .h264 h1) h1Slice :=
  ⟨reaches_pointsOn (n := 10) (by decide +kernel), reaches_pointsOn (n := 15) (by decide +kernel)⟩
theorem h1_ready : packetReady (detector .h264 h1) ∧ accepted (detector .h264 h1) := by
  unfold packetReady inRange accepted
  decide +kernel
theorem witness_H264PassesOver_end :
    ∃ a, H264Reaches (detector .h264 (late [0, 0, 1, 9, 0xF0])) a ∧ 188 ≤ a.pos :=
  ⟨{ pos := 188, scanner := 0x109F0, flags := { FdH264.zero with gotAud := true }, log2mfn := 0 },
    reaches_pointsOn (n := 5) (by decide +kernel), by decide⟩
theorem witness_H264SliceClassified_sameSps :
    h1Slice.nal (detector .h264 h1) ∧ h1Slice.classifies (detector .h264 h1) ∧
      sliceOf h1Slice.flags h1Slice.log2mfn (headerBits (detector .h264 h1) h1Slice.pos) = (2, false, false) ∧
      sliceOf h1Slice.flags h1Slice.log2mfn [] = (0xFFFFFFFF, false, false) := by
  unfold H264Point.nal H264Point.classifies
  decide +kernel
theorem witness_H264SpsRecorded_inside :
    h1Sps.nal (detector .h264 h1) ∧ nalType (detector .h264 h1) h1Sps.pos = 7 ∧
      (spsReadAt (detector .h264 h1) h1Sps.pos).2.src.left = false ∧
      (∀ b, H264Reaches (detector .h264 h1) b → (spsReadAt (detector .h264 h1) h1Sps.pos).2.src.pos ≤ b.pos →
        b.nal (detector .h264 h1) → nalType (detector .h264 h1) b.pos ≠ 7) ∧
      ∃ t, exec .fdPacket (detector .h264 h1) = .next t := by
  refine ⟨?_, ?_, ?_, fun b hb hp _ => ?_, exec_next _ _⟩
  · unfold H264Point.nal; decide +kernel
  · decide +kernel
  · decide +kernel
  · obtain ⟨n, hn⟩ := pointsOn_reaches hb
    have hq : (spsReadAt (detector .h264 h1) h1Sps.pos).2.src.pos = 181 := by decide +kernel
    have hall : ∀ n < 16, ∀ c ∈ pointsOn (detector .h264 h1) n, 181 ≤ c.pos → nalType (detector .h264 h1) c.pos ≠ 7 := by
      decide +kernel
    by_cases h16 : n < 16
    · exact hall n h16 b hn (hq ▸ hp)
    · obtain ⟨k, rfl⟩ := Nat.exists_eq_add_of_le (Nat.le_of_not_lt h16)
      rw [pointsOn_none (by decide +kernel) k] at hn
      cases hn
/-- A detector that has met an SPS with 4-bit frame numbers, and an AUD and an I slice in the packet. -/
def sliceBench : State :=
  { detector .h264 (cont [0, 0, 1, 9, 0xF0, 0, 0, 1, 0x65, 0xB8, 0x80]) with
    fdH264 := { gotAud := false, gotSps := true, frameMbsOnly := true, sepColourPlane := false }, fdLog2mfn := 4 }
/-- Its slice header: first_mb 0, slice_type 2, pps 0, frame_num 0001. -/
def sliceHeader : SliceSyntax :=
  { firstMb := 0, sliceType := 2, ppsId := 0, colourPlane := 0, frameNum := [false, false, false, true], fieldPic := false
    bottomField := false }
theorem witness_H264SliceClassified :
    packetReady sliceBench ∧ accepted sliceBench ∧ firstRead sliceBench 12 ∧ nalType sliceBench 12 = 5 ∧
      audBefore sliceBench 12 ∧ sliceHeader.ok sliceBench.fdH264 sliceBench.fdLog2mfn ∧
      beginsWith (headerBits sliceBench 12) (sliceHeader.bits sliceBench.fdH264) ∧
      ∃ t, exec .fdPacket sliceBench = .next t := by
  refine ⟨?_, ?_, ?_, ?_, ?_, ?_, ?_, exec_next _ _⟩
  · unfold packetReady inRange; decide +kernel
  · unfold accepted; decide +kernel
  · refine ⟨by unfold nalAt scans; decide +kernel, ?_⟩
    have h : ∀ q < 12, scannerAt sliceBench q / 256 = 1 → nalType sliceBench q = 9 := by decide +kernel
    exact fun q hq hn => by rw [h q hq hn.2]; exact ⟨by decide, fun h => absurd h (by decide)⟩
  · decide +kernel
  · exact .inr ⟨7, by decide, by unfold nalAt scans; decide +kernel, by decide +kernel⟩
  · unfold SliceSyntax.ok ueRange; decide
  · unfold beginsWith; decide +kernel
/-- The SPS of vector H1, right before the end of a packet that does not hold all of it. -/
def spsBench : State :=
  detector .h264 (late [0, 0, 1, 0x67, 0x64, 0x00, 0x1F, 0xAC] ++ cont [0xDA, 0x05, 0x07, 0xE4])
/-- Its syntax: profile 100, 4:2:0, no scaling lists, 4-bit frame numbers, order count type 0. -/
def spsSyntax : SpsSyntax :=
  { profile := 100, constraints := 0, level := 31, spsId := 0
    chroma := some
      { chromaFormat := 1, sepColour := false, lumaDepth := 0, chromaDepth := 0, bypass := false, scaling := none }
    log2mfnMinus4 := 0, poc := .zero 2, refFrames := 1, gaps := false, width := 19, height := 14, frameMbsOnly := true }
theorem witness_SpsFieldsRead :
    (beginsWith (headerBits (detector .h264 h1) 172) spsSyntax.bits ∧
      spsSyntax.bits.length ≤ 8 * (withoutEscapes 0 (packetAfter (detector .h264 h1) 172)).length) ∧
    8 * (withoutEscapes 0 (packetAfter spsBench 183)).length < spsSyntax.bits.length ∧
    spsSyntax.ok ∧ beginsWith (headerBits spsBench 183) spsSyntax.bits := by
  refine ⟨⟨by unfold beginsWith; decide +kernel, by decide +kernel⟩, by decide +kernel, ?_,
    by unfold beginsWith; decide +kernel⟩
  refine ⟨by unfold ueRange; decide, by decide, ?_, by unfold ueRange; decide, by show (2 : Nat) ≤ 2 ^ 32 - 2; decide,
    by unfold ueRange; decide, by unfold ueRange; decide, by unfold ueRange; decide⟩
  rintro c ⟨⟩
  exact ⟨by unfold ueRange; decide, by decide, by unfold ueRange; decide, by unfold ueRange; decide, fun _ h => nomatch h⟩
theorem witness_H264SpsRecorded :
    packetReady spsBench ∧ accepted spsBench ∧ firstRead spsBench 183 ∧ nalType spsBench 183 = 7 ∧
      (spsReadAt spsBench 183).2.src.left = true ∧
      ∃ t, exec .fdPacket spsBench = .next t := by
  refine ⟨?_, ?_, ?_, ?_, ?_, exec_next _ _⟩
  · unfold packetReady inRange; decide +kernel
  · unfold accepted; decide +kernel
  · refine ⟨by unfold nalAt scans; decide +kernel, ?_⟩
    have h : ∀ q < 183, startAt spsBench ≤ q → ¬scannerAt spsBench q / 256 = 1 := by decide +kernel
    exact fun q hq hn => absurd hn.2 (h q hq hn.1.1)
  · decide +kernel
  · decide +kernel
theorem witness_EarlyStopChangesNothing :
    ({ bits := { BitCursor.fresh false with pastEnd := true }, src := { pos := 188, left := true, ahead := [] } } :
      Reader HeaderSource).bits.pastEnd = true := rfl
/-- An audio packet with PTS 90000, in a window of three samples. -/
def audioBench (samples : List Stamp) : State :=
  { detector .audio (packet ([0x47, 0x41, 0x00, 0x10, 0, 0, 1, 0xC0, 0, 0, 0x80, 0x80, 5, 0x21, 0x00, 0x05, 0xBF, 0x21])) with
    params := { bufSize := 8192, ptsWindow := 3 }, fdSamples := samples }
theorem witness_PtsSampling :
    packetReady (audioBench [87840]) ∧ accepted (audioBench [87840]) ∧
      (∃ t, exec .fdPacket (audioBench [87840]) = .next t ∧ sampling (audioBench [87840]) t) ∧
      stampAt (audioBench [87840]) (offAt (audioBench [87840]) 0 + 9) = 90000 ∧ ¬wrapped 87840 90000 ∧
      wrapped (2 ^ 33 - 1) 90000 ∧
      ∃ t, exec .fdPacket { audioBench [] with fdRate := { FdRate.zero with synced := true } } = .next t ∧
        ¬sampling { audioBench [] with fdRate := { FdRate.zero with synced := true } } t := by
  refine ⟨?_, ?_, ?_, ?_, ?_, ?_, (exec_next _ _).imp fun _ h => ⟨h, fun hs => by cases hs.1⟩⟩
  · unfold packetReady inRange; decide +kernel
  · unfold accepted; decide +kernel
  · obtain ⟨t, ht, hi⟩ : ∃ t, exec .fdPacket (audioBench [87840]) = .next t ∧ t.fdRate.iframeSeen = true :=
      after_next (by decide +kernel)
    exact ⟨t, ht, rfl, by decide +kernel, hi, by unfold hasStamp; decide +kernel⟩
  · decide +kernel
  · unfold wrapped; decide
  · unfold wrapped; decide
theorem witness_RateDecision :
    (∃ t, exec .fdPacket (audioBench [85680, 87840]) = .next t ∧
      (t.fdRate.synced && t.fdSamples.map (·.toNat) == [85680, 87840, 90000]) = true) ∧
      ([85680, 87840, 90000] : List Nat).Pairwise (· ≤ ·) ∧ isMode (deltasOf [85680, 87840, 90000]) 2160 ∧
      (∃ t, exec .fdPacket (audioBench [90000, 90000]) = .next t ∧ t.fdRate.synced = true) ∧
      deltasOf [90000, 90000, 90000] = [] :=
  ⟨after_next (by decide +kernel), by decide, by unfold isMode; decide, after_next (by decide +kernel), by decide⟩
theorem witness_GopFedTwice :
    packetReady (detector .mpeg2 p0) ∧ accepted (detector .mpeg2 p0) ∧ pusiAt (detector .mpeg2 p0) 0 = true ∧
      ∃ t, exec .fdPacket (detector .mpeg2 p0) = .next t := by
  refine ⟨?_, ?_, ?_, exec_next _ _⟩
  · unfold packetReady inRange; decide +kernel
  · unfold accepted; decide +kernel
  · decide +kernel
theorem witness_InvariantAtReset : ({ bufSize := 65536, ptsWindow := 3 } : Params).legal = true := by decide
theorem witness_InvariantKept : (bench [1, 2]).Inv ∧ ∃ t, step (bench [1, 2]) = .next t := by
  refine ⟨⟨by decide, ⟨by decide, by decide⟩, ?_, ?_, ?_⟩, ⟨_, rfl⟩⟩
  · unfold State.cursorOk; decide
  · unfold State.rateOk; decide
  · unfold State.flagsOk; decide

end Sys2Proof.Tests
end

section
/-! The host bus and the registers: what a read of each register returns as a number (10_state.md R20 to R41), what a write of
each does (R27, R28, R41, R44, R45), the bus at a register's address (20_memory.md R66, R67), and the values after reset
(10_state.md R20, 70_reset_and_hazards.md R260). -/

namespace Sys2Proof.Machine

open Sys2Proof.Claims

/-! ## Words made of fields

A register of fields is an OR of fields at rising places. `Packed w n k` says that `w` has the value `k` and nothing at or above
bit `n`, so that a field put at or above bit `n` adds to the value. -/

/-- `w` is the number `k`, which fits `n` bits. -/
structure Packed (w : Word) (n k : Nat) : Prop where
  value : w.toNat = k
  bound : k < 2 ^ n

theorem fieldAt_toNat {m : Nat} (v : BitVec m) {lo : Nat} (h : lo + m ≤ 32) : (fieldAt v lo).toNat = 2 ^ lo * v.toNat := by
  have hlt : 2 ^ lo * v.toNat < 2 ^ 32 :=
    calc 2 ^ lo * v.toNat < 2 ^ lo * 2 ^ m := Nat.mul_lt_mul_of_pos_left v.isLt (Nat.two_pow_pos lo)
      _ = 2 ^ (lo + m) := (pow_add 2 lo m).symm
      _ ≤ 2 ^ 32 := Nat.pow_le_pow_right (by omega) h
  have hv : v.toNat < 2 ^ 32 := v.isLt.trans_le (Nat.pow_le_pow_right (by omega) (by omega))
  rw [fieldAt, BitVec.toNat_shiftLeft, BitVec.toNat_setWidth, Nat.mod_eq_of_lt hv, Nat.shiftLeft_eq, mul_comm,
    Nat.mod_eq_of_lt hlt]

/-- A flag is a field of one bit. -/
theorem flagBit_eq_fieldAt (b : Bool) (i : Nat) : flagBit b i = fieldAt (BitVec.ofBool b) i := by
  cases b
  · simp [flagBit, fieldAt]
  · rfl

theorem packed_field {m : Nat} (v : BitVec m) (h : m ≤ 32 := by omega) : Packed (fieldAt v 0) m v.toNat :=
  ⟨by rw [fieldAt_toNat v (by omega)]; omega, v.isLt⟩

theorem packed_flag (b : Bool) : Packed (flagBit b 0) 1 b.toNat := by
  cases b <;> exact ⟨rfl, by decide⟩

/-- A field above everything a word holds adds its value. -/
theorem Packed.field {w : Word} {n k m : Nat} (hw : Packed w n k) (v : BitVec m) (lo : Nat) (hn : n ≤ lo := by omega)
    (hm : lo + m ≤ 32 := by omega) :
    Packed (w ||| fieldAt v lo) (lo + m) (k + 2 ^ lo * v.toNat) := by
  have hk : k < 2 ^ lo := hw.bound.trans_le (Nat.pow_le_pow_right (by omega) hn)
  refine ⟨?_, ?_⟩
  · rw [BitVec.toNat_or, fieldAt_toNat v hm, hw.value, Nat.or_comm, ← Nat.two_pow_add_eq_or_of_lt hk, Nat.add_comm]
  · calc k + 2 ^ lo * v.toNat < 2 ^ lo * (v.toNat + 1) := by rw [Nat.mul_succ]; omega
      _ ≤ 2 ^ lo * 2 ^ m := Nat.mul_le_mul_left _ v.isLt
      _ = 2 ^ (lo + m) := (pow_add 2 lo m).symm

theorem Packed.flag {w : Word} {n k : Nat} (hw : Packed w n k) (b : Bool) (i : Nat) (hn : n ≤ i := by omega)
    (hi : i + 1 ≤ 32 := by omega) :
    Packed (w ||| flagBit b i) (i + 1) (k + 2 ^ i * b.toNat) := by
  rw [flagBit_eq_fieldAt, ← BitVec.toNat_ofBool]
  exact hw.field _ i hn hi

theorem Status.word_toNat (st : Status) :
    st.word.toNat = st.valid.toNat + 2 ^ 1 * st.needMore.toNat + 2 ^ 2 * st.malformed.toNat + 2 ^ 3 * st.newFrame.toNat +
      2 ^ 4 * st.indepFrame.toNat + 2 ^ 5 * st.brOvf.toNat + 2 ^ 6 * st.brEod.toNat + 2 ^ 8 * st.err.code.toNat +
      2 ^ 16 * st.stickyErr.toNat + 2 ^ 17 * st.busErr.toNat :=
  packed_flag st.valid |>.flag st.needMore 1 |>.flag st.malformed 2 |>.flag st.newFrame 3 |>.flag st.indepFrame 4
    |>.flag st.brOvf 5 |>.flag st.brEod 6 |>.field st.err.code 8 |>.flag st.stickyErr 16 |>.flag st.busErr 17 |>.value

/-- BR_STATE as a number, for a cursor whose counts fit their fields (10_state.md R32). -/
theorem BrState.word_toNat {b : BrState} (hn : b.bits.nbits ≤ 8) (hz : b.bits.zeros ≤ 2) :
    b.word.toNat = b.bits.cur.toNat + 2 ^ 8 * b.bits.nbits + 2 ^ 12 * b.bits.zeros + 2 ^ 16 * b.bits.raw.toNat +
      2 ^ 17 * b.active.toNat + 2 ^ 18 * b.bits.pastEnd.toNat := by
  have hp :=
    packed_field b.bits.cur |>.field (BitVec.ofNat 4 b.bits.nbits) 8 |>.field (BitVec.ofNat 2 b.bits.zeros) 12
      |>.flag b.bits.raw 16 |>.flag b.active 17 |>.flag b.bits.pastEnd 18
  rw [BitVec.toNat_ofNat, BitVec.toNat_ofNat, Nat.mod_eq_of_lt (by omega : b.bits.nbits < 2 ^ 4),
    Nat.mod_eq_of_lt (by omega : b.bits.zeros < 2 ^ 2)] at hp
  exact hp.value

theorem FdCfg.word_toNat (c : FdCfg) :
    c.word.toNat = c.pid.toNat + 2 ^ 16 * c.kind.code.toNat + 2 ^ 31 * c.configured.toNat :=
  packed_field c.pid |>.field c.kind.code 16 |>.flag c.configured 31 |>.value

theorem FdH264.word_toNat (h : FdH264) :
    h.word.toNat = h.gotAud.toNat + 2 ^ 1 * h.gotSps.toNat + 2 ^ 2 * h.frameMbsOnly.toNat + 2 ^ 3 * h.sepColourPlane.toNat :=
  packed_flag h.gotAud |>.flag h.gotSps 1 |>.flag h.frameMbsOnly 2 |>.flag h.sepColourPlane 3 |>.value

theorem FdResult.word_toNat (r : FdResult) : r.word.toNat = resultImage r :=
  packed_flag r.newFrame |>.flag r.indepFrame 1 |>.field r.frameType 2 |>.flag r.fieldPic 5 |>.flag r.bottomField 6
    |>.field r.startOff 8 |>.value

theorem FdRate.word_toNat (r : FdRate) :
    r.word.toNat = r.synced.toNat + 2 ^ 1 * r.fieldCoded.toNat + 2 ^ 2 * r.rateCode.code.toNat + 2 ^ 5 * r.iframeSeen.toNat :=
  packed_flag r.synced |>.flag r.fieldCoded 1 |>.field r.rateCode.code 2 |>.flag r.iframeSeen 5 |>.value

/-! ## Reading a register -/

theorem lowWord_toNat (v : DWord) : (v.extractLsb' 0 32).toNat = v.toNat % 2 ^ 32 := by
  simp [BitVec.extractLsb'_toNat]

theorem highWord_toNat (v : DWord) : (v.extractLsb' 32 32).toNat = v.toNat / 2 ^ 32 := by
  have := v.isLt
  rw [BitVec.extractLsb'_toNat, Nat.shiftRight_eq_div_pow, Nat.mod_eq_of_lt (by omega)]

/-- A read of a register returns its fields in their places (10_state.md R21 to R41). -/
theorem State.readReg_toNat {s : State} (hn : s.brState.bits.nbits ≤ 8) (hz : s.brState.bits.zeros ≤ 2) (r : Reg) :
    (s.readReg r).toNat = registerImage s r := by
  cases r
  case status =>
    simp only [State.readReg, Status.word_toNat, registerImage]
    cases s.status.err <;> rfl
  case brState => exact BrState.word_toNat hn hz
  case fdCfg =>
    simp only [State.readReg, FdCfg.word_toNat, registerImage]
    cases s.fdCfg.kind <;> rfl
  case fdH264 => exact FdH264.word_toNat s.fdH264
  case fdResult => exact FdResult.word_toNat s.fdResult
  case fdRate =>
    simp only [State.readReg, FdRate.word_toNat, registerImage]
    cases s.fdRate.rateCode <;> rfl
  case opaLo | opbLo | res0Lo | res1Lo => exact lowWord_toNat _
  case opaHi | opbHi | res0Hi | res1Hi => exact highWord_toNat _
  all_goals rfl

theorem State.readReg_eq {s : State} (hn : s.brState.bits.nbits ≤ 8) (hz : s.brState.bits.zeros ≤ 2) (r : Reg) :
    s.readReg r = BitVec.ofNat 32 (registerImage s r) := by
  rw [← State.readReg_toNat hn hz, BitVec.ofNat_toNat, BitVec.setWidth_eq]

/-- A read does not depend on the accesses to come. -/
@[simp] theorem State.readReg_withHost (s : State) (ops : List HostOp) (r : Reg) :
    ({ s with host := ops } : State).readReg r = s.readReg r := by
  cases r <;> rfl

/-! ## Writing a register -/

theorem State.readReg_writeReg_same {r : Reg} (s : State) (v : Word) (h : r ∈ writableRegisters) :
    (s.writeReg r v).readReg r = v := by
  cases r
  case addr | len | fdDefdur => rfl
  case opaLo | opbLo => exact BitVec.extractLsb'_append_eq_right
  case opaHi | opbHi => exact BitVec.extractLsb'_append_eq_left
  all_goals exact absurd h (by decide)

/-- The halves of a 64-bit register are stored apart (10_state.md R28). -/
theorem State.readReg_writeReg_other {r r' : Reg} (s : State) (v : Word) (h : r' ≠ r) :
    (s.writeReg r v).readReg r' = s.readReg r' := by
  cases r <;> cases r'
  case addr.addr | len.len | opaLo.opaLo | opaHi.opaHi | opbLo.opbLo | opbHi.opbHi | fdDefdur.fdDefdur => exact absurd rfl h
  case opaLo.opaHi | opbLo.opbHi => exact BitVec.extractLsb'_append_eq_left
  case opaHi.opaLo | opbHi.opbLo => exact BitVec.extractLsb'_append_eq_right
  all_goals rfl

/-- A write of a register reaches no sample, no buffer byte, no parameter and nothing of the host's side. -/
theorem State.writeReg_frame (s : State) (r : Reg) (v : Word) :
    (s.writeReg r v).fdSamples = s.fdSamples ∧ (s.writeReg r v).mem = s.mem ∧ (s.writeReg r v).powerCycle = s.powerCycle ∧
      (s.writeReg r v).params = s.params ∧ (s.writeReg r v).host = s.host ∧ (s.writeReg r v).hostReply = s.hostReply := by
  cases r <;> exact ⟨rfl, rfl, rfl, rfl, rfl, rfl⟩

theorem State.writeReg_readOnly {r : Reg} (s : State) (v : Word) (h : r ∉ writableRegisters) : s.writeReg r v = s := by
  cases r
  case addr | len | opaLo | opaHi | opbLo | opbHi | fdDefdur => exact absurd (by decide) h
  all_goals rfl

/-! ## The bus at a register's address -/

/-- Register `k` of 10_state.md R20 is at `4 * k`. -/
theorem address_of_registersInOrder {k : Nat} {r : Reg} (h : registersInOrder[k]? = some r) :
    BitVec.ofNat 17 (4 * k) = r.address := by
  have hall : ∀ j : Fin registersInOrder.length, BitVec.ofNat 17 (4 * j) = registersInOrder[j].address := by decide
  obtain ⟨hk, rfl⟩ := List.getElem?_eq_some_iff.mp h
  exact hall ⟨k, hk⟩

/-- An aligned 4-byte access at a register's address reaches it (20_memory.md R66, R67). -/
@[simp] theorem busTarget_address (n : Nat) (r : Reg) : busTarget n r.address 4 = .register r := by
  cases r <;> rfl

@[simp] theorem State.hostRead_register (s : State) (r : Reg) :
    s.hostRead r.address 4 = { s with hostReply := some (s.readReg r) } := by
  simp [State.hostRead]

/-- A write of CMD runs the command (40_control.md R100). -/
@[simp] theorem hostWrite_cmd (v : Word) (s : State) : hostWrite Reg.cmd.address 4 v s = runCommand v s := by
  simp [hostWrite]

@[simp] theorem hostWrite_register {r : Reg} (h : r ≠ .cmd) (v : Word) (s : State) :
    hostWrite r.address 4 v s = .next (s.writeReg r v) := by
  cases r
  case cmd => exact absurd rfl h
  all_goals rfl

theorem runCommand_ok {w : Word} {i : Instr} (h : decode w = .ok i) (s : State) : runCommand w s = exec i s := by
  simp [runCommand, h]

theorem decode_of_decodeTableWord {nbits n : Nat} {i : Instr} (h : decodeTableWord nbits n = some i) :
    decode (BitVec.ofNat 32 (n % 2 ^ nbits)) = .ok i := by
  unfold decodeTableWord at h
  split at h
  · next j hj => cases h; exact hj
  · cases h

/-! ## The values after reset -/

/-- The fields of every register are 0 after reset but for those 10_state.md R20 gives another value. -/
theorem registerImage_resetWith (p : Params) (r : Reg) : registerImage (State.resetWith p) r = resetImage p r := by
  cases r
  case opaHi | opbHi | res0Hi | res1Hi => exact Nat.zero_div _
  all_goals rfl

theorem State.resetWith_readReg (p : Params) (r : Reg) : ((State.resetWith p).readReg r).toNat = resetImage p r := by
  rw [State.readReg_toNat (by decide : (0 : Nat) ≤ 8) (by decide : (0 : Nat) ≤ 2), registerImage_resetWith]

/-- A power-on leaves the registers of a unit just reset. -/
theorem State.powerOn_readReg (s : State) (r : Reg) : s.powerOn.readReg r = (State.resetWith s.params).readReg r := by
  cases r <;> rfl

end Sys2Proof.Machine

namespace Sys2Proof.Proofs

open Sys2Proof.Machine Sys2Proof.Claims

/-- Settles O8: the bus reaches the register, and its word is its fields, each added at its place. -/
theorem hostReadsRegister : Obligations.HostReadsRegister := by
  intro s rest k r hk hn hz
  rw [address_of_registersInOrder hk]
  calc step { s with host := .read r.address 4 :: rest }
      = .next ({ s with host := rest }.hostRead r.address 4) := rfl
    _ = .next { s with host := rest, hostReply := some (BitVec.ofNat 32 (registerImage s r)) } := by
        rw [State.hostRead_register, State.readReg_withHost, State.readReg_eq hn hz]

/-- Settles O10: the bus reaches the register; a writable one stores the word, a read-only one keeps the state. -/
theorem hostWritesRegister : Obligations.HostWritesRegister := by
  intro s rest k r v hk
  rw [address_of_registersInOrder hk]
  have hstep : r ≠ .cmd →
      step { s with host := .write r.address 4 v :: rest } = .next ({ s with host := rest }.writeReg r v) :=
    fun hr => hostWrite_register hr v _
  refine ⟨fun hw => ⟨_, hstep ?_, State.readReg_writeReg_same _ v hw, fun r' hr' => ?_, State.writeReg_frame _ r v⟩,
    fun hw hr => ?_⟩
  · rintro rfl
    exact absurd hw (by decide)
  · rw [State.readReg_writeReg_other _ v hr', State.readReg_withHost]
  · rw [hstep hr, State.writeReg_readOnly _ v hw]

/-- Settles O6: the bus reaches CMD at 0x0000C, and running a word is running the command it decodes to. -/
theorem stepRunsDecodedCommand : Obligations.StepRunsDecodedCommand := by
  intro s i
  have hcmd : ∀ (t : State) (rest : List HostOp) (w : Word), decode w = .ok i →
      step { t with host := .write Reg.cmd.address 4 w :: rest } = exec i { t with host := rest } :=
    fun t rest w hw => (hostWrite_cmd w _).trans (runCommand_ok hw _)
  exact ⟨hcmd s, fun nbits n hn => hcmd s s.host _ (decode_of_decodeTableWord hn)⟩

/-- Settles O12. -/
theorem resetValues : Obligations.ResetValues :=
  ⟨State.resetWith_readReg, fun _ => ⟨rfl, rfl, fun _ => rfl⟩, rfl⟩

/-- Settles O13: the step is `State.powerOn`, whose registers are those of a unit just reset. -/
theorem powerOnStepResets : Obligations.PowerOnStepResets := by
  intro s rest
  refine ⟨{ s with host := rest }.powerOn, rfl, fun r => ?_, rfl, rfl, rfl, fun _ => rfl⟩
  rw [State.powerOn_readReg]
  exact State.resetWith_readReg s.params r

end Sys2Proof.Proofs
end

section
/-! The frame of every command (10_state.md R25 to R42): what a command that ends without an error may have changed, as one
equation for the state and one for STATUS; the errors a command can end with; then what the BR reads and FD_PACKET do. -/

namespace Sys2Proof.Machine

open Sys2Proof.Claims

/-! ## Which command writes what -/

/-- The commands that write buffer bytes (20_memory.md R61). -/
def bufferWriters : List Instr := [.crcAppend, .tsPcrSet, .pesSetTsPts, .pesSetTsDts, .tsSetTsPts, .tsSetTsDts]

/-- The commands that write CRC (10_state.md R30). -/
def crcWriters : List Instr := [.crcInit, .crcSeed, .crcUpdate]

/-- The commands that report NEED_MORE and MALFORMED (10_state.md R25). -/
def shortageReporters : List Instr := [.sectCheck, .tsHdr, .pesAnalyze, .fdPacket]

/-- The commands that move the BR cursor (10_state.md R31, R32). -/
abbrev movesCursor (i : Instr) : Prop := i ∈ brInits ∨ i ∈ brReads

/-- The commands that write the frame detector's registers besides FD_CFG (10_state.md R34 to R39). -/
abbrev writesDetector (i : Instr) : Prop := i ∈ fdConfigs ∨ i = .fdPacket

/-- The commands whose rules do not name RES0 (10_state.md R29). -/
abbrev keepsRes0 (i : Instr) : Prop := i ∈ [.nop, .clrStatus] ∨ i ∈ brInits ∨ i ∈ fdConfigs

/-- The commands whose rules do not name RES1 (10_state.md R29). -/
abbrev keepsRes1 (i : Instr) : Prop :=
  i ∈ [.nop, .clrStatus] ∨ i ∈ brInits ∨ i ∈ brReads ∨ i ∈ fdConfigs ∨
    i ∈ [.crcInit, .crcSeed, .crcUpdate, .crcCheck, .crcCheckAcc, .crcAppend, .tsPcrSet, .pesGetTsPts, .pesGetTsDts,
      .pesSetTsPts, .pesSetTsDts, .t33Add]

/-- `s` with the registers that command `i`, SOFT_RESET apart, may write taken from `t`. -/
def commandFrame (i : Instr) (s t : State) : State :=
  { s with
    cmd := encode i
    status := t.status
    res0 := if keepsRes0 i then s.res0 else t.res0
    res1 := if keepsRes1 i then s.res1 else t.res1
    crc := if i ∈ crcWriters then t.crc else s.crc
    brBase := if i ∈ brInits then t.brBase else s.brBase
    brLen := if i ∈ brInits then t.brLen else s.brLen
    brIdx := if movesCursor i then t.brIdx else s.brIdx
    brState :=
      { bits := if movesCursor i then t.brState.bits else s.brState.bits
        active := if i ∈ brInits then t.brState.active else s.brState.active }
    fdCfg := if i ∈ fdConfigs then t.fdCfg else s.fdCfg
    fdScanner := if writesDetector i then t.fdScanner else s.fdScanner
    fdH264 := if writesDetector i then t.fdH264 else s.fdH264
    fdLog2mfn := if writesDetector i then t.fdLog2mfn else s.fdLog2mfn
    fdResult := if writesDetector i then t.fdResult else s.fdResult
    fdRate := if writesDetector i then t.fdRate else s.fdRate
    fdDuration := if writesDetector i then t.fdDuration else s.fdDuration
    fdSamples := if writesDetector i then t.fdSamples else s.fdSamples
    freeCount := if i = .fdPacket then t.freeCount else s.freeCount
    mem := if i ∈ bufferWriters then t.mem else s.mem }

/-- STATUS after command `i` without an error, SOFT_RESET apart: the transient fields `i` reports from `st'`, the others 0
(10_state.md R25, R26), the sticky ones of `st` kept or cleared. -/
def statusFrame (i : Instr) (st st' : Status) : Status :=
  { valid := if i ∉ [.nop, .clrStatus, .softReset] then st'.valid else false
    needMore := if i ∈ shortageReporters then st'.needMore else false
    malformed := if i ∈ shortageReporters then st'.malformed else false
    newFrame := if i = .fdPacket then st'.newFrame else false
    indepFrame := if i = .fdPacket then st'.indepFrame else false
    brOvf := if i = .brUe ∨ i = .brSe then st'.brOvf else false
    brEod := if i ∈ brReads then st'.brEod else false
    err := .noError
    stickyErr := if i ∈ [.clrStatus, .softReset] then false else st.stickyErr
    busErr := if i ∈ [.clrStatus, .softReset] then false else st.busErr }

/-- A field that a frame takes from after the command where `p` holds, and has 0 elsewhere, is set only where `p` holds. -/
theorem cond_of_reported {p : Prop} [Decidable p] {b c : Bool} (h : b = if p then c else false) (hb : b = true) : p := by
  by_contra hp
  rw [h, if_neg hp] at hb
  cases hb

/-! ## What the shared operations change -/

/-- A run of bytes changes the buffer only. -/
theorem State.setBytes_eq (s : State) (a : Nat) (bs : List Byte) : s.setBytes a bs = { s with mem := (s.setBytes a bs).mem } := by
  induction bs generalizing s a with
  | nil => rfl
  | cons b bs ih => exact ih (s.setByte a b) (a + 1)

/-- The sampling changes the rate inference only (45_frame_detector.md R211 to R213). -/
theorem postPacket_eq (V : View) (f : TsFields) (R : FdResult) (s : State) :
    postPacket V f R s =
      { s with
        fdRate := (postPacket V f R s).fdRate, fdDuration := (postPacket V f R s).fdDuration
        fdSamples := (postPacket V f R s).fdSamples, freeCount := (postPacket V f R s).freeCount } := by
  rcases postPacket_cases V f R s with h | ⟨-, -, p, h⟩
  · rw [h]
  · rw [h]
    unfold addSample
    simp only
    split_ifs <;> rfl

/-- What FD_PACKET can do with a view (45_frame_detector.md R192): no packet is processed and RES0, RES1 and the shortage
reports are all it changes, or a packet is processed. -/
theorem fdPacket_cases (V : View) (s : State) :
    (∃ n m x y, fdPacket V s = { s with res0 := x, res1 := y, status := { s.status with needMore := n, malformed := m } }) ∨
      fdPacket V s = processPacket V (tsFields V) s := by
  unfold fdPacket
  split_ifs
  · exact .inl ⟨_, _, _, _, rfl⟩
  · exact .inl ⟨_, _, _, _, rfl⟩
  · exact .inr rfl
  · exact .inl ⟨_, _, _, _, rfl⟩

theorem fdPacketRule_ok {s t : State} (h : fdPacketRule s = .ok t) : t = fdPacket s.inputView s :=
  (withView_ok (configuredDetector_ok h).2).2

theorem sectCheck_frame (V : View) (s : State) :
    sectCheck V s =
      { s with
        res0 := (sectCheck V s).res0, res1 := (sectCheck V s).res1
        status :=
          { s.status with
            valid := (sectCheck V s).status.valid, needMore := (sectCheck V s).status.needMore
            malformed := (sectCheck V s).status.malformed } } := by
  unfold sectCheck
  simp only
  split_ifs <;> rfl

/-! ## The frame of a rule -/

/-- A processed packet keeps to FD_PACKET's frame. -/
theorem processPacket_frame (V : View) (f : TsFields) (s : State) :
    let u := processPacket V f (s.beginCommand (encode .fdPacket))
    u = commandFrame .fdPacket s u ∧ u.status = statusFrame .fdPacket s.status u.status := by
  simp only [processPacket]
  rw [postPacket_eq]
  exact ⟨rfl, rfl⟩

/-- A command that ends without an error keeps to its frame. -/
theorem ruleOf_frame {i : Instr} {s t : State} (hi : i ≠ .softReset) (h : ruleOf i (s.beginCommand (encode i)) = .ok t) :
    t = commandFrame i s t ∧ t.status = statusFrame i s.status t.status := by
  cases i <;> simp only [ruleOf] at h
  case softReset => exact absurd rfl hi
  case nop | clrStatus | crcInit | crcSeed | t33Diff | t33Add =>
    cases h
    exact ⟨rfl, rfl⟩
  case brInit | brInitRaw | crcUpdate | crcCheck | crcCheckAcc | tsHdr | pesAnalyze =>
    obtain ⟨-, rfl⟩ := withView_ok h
    exact ⟨rfl, rfl⟩
  case sectCheck =>
    obtain ⟨-, rfl⟩ := withView_ok h
    rw [sectCheck_frame]
    exact ⟨rfl, rfl⟩
  case brBit | brUe | brSe | brByte =>
    obtain ⟨-, h⟩ := activeCursor_ok h
    cases h
    exact ⟨rfl, rfl⟩
  case brBits =>
    obtain ⟨-, rfl⟩ := bitCountOperand_ok (activeCursor_ok h).2
    exact ⟨rfl, rfl⟩
  case crcAppend =>
    obtain ⟨-, rfl⟩ := withViewAndTail_ok h
    simp only [State.memWrite]
    rw [State.setBytes_eq]
    exact ⟨rfl, rfl⟩
  case tsPcrGet | pesGetTsPts | pesGetTsDts =>
    obtain ⟨-, rfl⟩ := withView_ok h
    split_ifs <;> exact ⟨rfl, rfl⟩
  case tsFindTsPts | tsFindTsDts =>
    obtain ⟨-, rfl⟩ := withView_ok h
    split <;> exact ⟨rfl, rfl⟩
  case tsPcrSet | pesSetTsPts | pesSetTsDts =>
    obtain ⟨-, rfl⟩ := withView_ok h
    split_ifs
    · simp only
      rw [State.setBytes_eq]
      exact ⟨rfl, rfl⟩
    · exact ⟨rfl, rfl⟩
  case tsSetTsPts | tsSetTsDts =>
    obtain ⟨-, rfl⟩ := withView_ok h
    split
    · exact ⟨rfl, rfl⟩
    · rw [State.setBytes_eq]
      exact ⟨rfl, rfl⟩
  case fdConfigAudio | fdConfigMpeg2 | fdConfigH264 =>
    obtain ⟨-, rfl⟩ := pidOperand_ok h
    exact ⟨rfl, rfl⟩
  case fdPacket =>
    obtain rfl := fdPacketRule_ok h
    rcases fdPacket_cases (s.beginCommand (encode .fdPacket)).inputView (s.beginCommand (encode .fdPacket)) with
      ⟨n, m, x, y, hu⟩ | hu <;> rw [hu]
    · exact ⟨rfl, rfl⟩
    · exact processPacket_frame _ _ _

/-- Either way a command ends, it changes no register outside its frame: an error discards what the rule computed
(40_control.md R102). -/
theorem exec_frame {i : Instr} {s t : State} (hi : i ≠ .softReset) (h : exec i s = .next t) : t = commandFrame i s t := by
  rw [exec_eq_command] at h
  rcases command_cases h with hok | ⟨e, -, rfl⟩
  · exact (ruleOf_frame hi hok).1
  · cases i <;> rfl

/-! ## Errors -/

theorem withView_error {s : State} {rule : View → State} {e : ErrCode} (h : withView s rule = .error e) : e = .range := by
  unfold withView at h
  split_ifs at h
  cases h
  rfl

theorem withViewAndTail_error {s : State} {rule : View → State} {e : ErrCode} (h : withViewAndTail s rule = .error e) :
    e = .range := by
  unfold withViewAndTail at h
  split_ifs at h
  cases h
  rfl

theorem activeCursor_error {s : State} {rule : Except ErrCode State} {e : ErrCode} (h : activeCursor s rule = .error e) :
    e = .notConfigured ∨ rule = .error e := by
  unfold activeCursor at h
  split_ifs at h
  · exact .inr h
  · cases h
    exact .inl rfl

theorem configuredDetector_error {s : State} {rule : Except ErrCode State} {e : ErrCode}
    (h : configuredDetector s rule = .error e) : e = .notConfigured ∨ rule = .error e := by
  unfold configuredDetector at h
  split_ifs at h
  · exact .inr h
  · cases h
    exact .inl rfl

theorem bitCountOperand_error {s : State} {rule : Nat → State} {e : ErrCode} (h : bitCountOperand s rule = .error e) :
    e = .badOperand := by
  unfold bitCountOperand at h
  split_ifs at h
  cases h
  rfl

theorem pidOperand_error {s : State} {rule : BitVec 13 → State} {e : ErrCode} (h : pidOperand s rule = .error e) :
    e = .badOperand := by
  unfold pidOperand at h
  split_ifs at h
  cases h
  rfl

/-- An error has a code other than 0, and CLR_STATUS and SOFT_RESET end with none (60_exceptions.md R240). -/
theorem ruleOf_error {i : Instr} {s : State} {e : ErrCode} (h : ruleOf i s = .error e) :
    e ≠ .noError ∧ i ∉ [.clrStatus, .softReset] := by
  refine ⟨?_, by rintro hi; fin_cases hi <;> cases h⟩
  cases i <;> simp only [ruleOf] at h
  case nop | clrStatus | softReset | crcInit | crcSeed | t33Diff | t33Add => cases h
  case brBit | brUe | brSe | brByte =>
    rcases activeCursor_error h with rfl | h
    · decide
    · cases h
  case brBits =>
    rcases activeCursor_error h with rfl | h
    · decide
    · simp [bitCountOperand_error h]
  case crcAppend => simp [withViewAndTail_error h]
  case fdConfigAudio | fdConfigMpeg2 | fdConfigH264 => simp [pidOperand_error h]
  case fdPacket =>
    rcases configuredDetector_error h with rfl | h
    · decide
    · simp [withView_error h]
  all_goals simp [withView_error h]

/-! ## BR reads keep RAW -/

section

variable {σ : Type} (next : Source σ)

@[simp] theorem fetchRaw_raw (r : Reader σ) : (fetchRaw next r).2.bits.raw = r.bits.raw := by
  unfold fetchRaw
  split <;> rfl

@[simp] theorem fetch_raw (r : Reader σ) : (fetch next r).2.bits.raw = r.bits.raw := by
  have h1 := fetchRaw_raw next r
  unfold fetch
  rcases hf : fetchRaw next r with ⟨b, r1⟩
  rw [hf] at h1
  simp only
  split_ifs
  · exact h1
  · exact (fetchRaw_raw next r1).trans h1
  · exact h1

@[simp] theorem refill_raw (r : Reader σ) : (refill next r).bits.raw = r.bits.raw := by
  unfold refill
  split_ifs
  · exact fetch_raw next r
  · rfl

@[simp] theorem getBit_raw (r : Reader σ) : (getBit next r).2.bits.raw = r.bits.raw := by
  simp [getBit_eq]

@[simp] theorem getBitsFrom_raw (v n : Nat) (r : Reader σ) : (getBitsFrom next v n r).2.bits.raw = r.bits.raw := by
  induction n generalizing v r with
  | zero => rfl
  | succ n ih => rw [getBitsFrom_succ, ih, getBit_raw]

@[simp] theorem leadingZeros_raw (z k : Nat) (r : Reader σ) : (leadingZeros next z k r).2.bits.raw = r.bits.raw := by
  induction k generalizing z r with
  | zero => rfl
  | succ k ih =>
    rw [leadingZeros_succ]
    split_ifs
    · exact getBit_raw next r
    · rw [ih, getBit_raw]

@[simp] theorem readUe_raw (r : Reader σ) : (readUe next r).2.bits.raw = r.bits.raw := by
  have hz := leadingZeros_raw next 0 32 r
  unfold readUe
  split
  · next r' h => rwa [h] at hz
  · next z r' h =>
    rw [h] at hz
    exact (getBitsFrom_raw next 0 z r').trans hz

end

/-- What a BR read that ends without an error does (41_bitreader.md R114 to R118): it ends with a reader that has kept RAW and,
if it was inside its view, has stayed there. -/
theorem brRead_ok {i : Instr} {s t : State} (hi : i ∈ brReads) (h : ruleOf i s = .ok t) :
    ∃ r v ovf, t = s.endBrRead r v ovf ∧ r.bits.raw = s.brState.bits.raw ∧ (BrReaderOk s s.brReader → BrReaderOk s r) := by
  have hinv := brReaderOk_readInv s
  cases i <;> simp only [ruleOf] at h
  case brBit =>
    exact ⟨_, _, _, (Except.ok.inj (activeCursor_ok h).2).symm, getBit_raw _ _, hinv.getBit⟩
  case brBits =>
    exact ⟨_, _, _, (bitCountOperand_ok (activeCursor_ok h).2).2, getBitsFrom_raw _ _ _ _, fun hr => hinv.getBitsFrom hr 0 _⟩
  case brUe =>
    exact ⟨_, _, _, (Except.ok.inj (activeCursor_ok h).2).symm, readUe_raw _ _, hinv.readUe⟩
  case brSe =>
    exact ⟨_, _, _, (Except.ok.inj (activeCursor_ok h).2).symm, readUe_raw _ _, hinv.readSe⟩
  case brByte =>
    exact ⟨_, _, _, (Except.ok.inj (activeCursor_ok h).2).symm, fetch_raw _ _, hinv.readByte⟩
  all_goals exact absurd hi (by decide)

/-- BR_STATE.RAW is written by BR_INIT only (10_state.md R32). -/
theorem exec_keeps_raw {i : Instr} {s t : State} (hr : i ≠ .softReset) (hi : i ∉ brInits) (h : exec i s = .next t) :
    t.brState.bits.raw = s.brState.bits.raw := by
  by_cases hb : i ∈ brReads
  · rw [exec_eq_command] at h
    rcases command_cases h with hok | ⟨e, -, rfl⟩
    · obtain ⟨r, v, ovf, rfl, hraw, -⟩ := brRead_ok hb hok
      exact hraw
    · rfl
  · exact congrArg BitCursor.raw ((congrArg (·.brState.bits) (exec_frame hr h)).trans (if_neg (not_or.mpr ⟨hi, hb⟩)))

/-! ## STATUS after FD_PACKET -/

/-- FD_PACKET reports a frame exactly when it has processed a packet, and then reports FD_RESULT's (45_frame_detector.md R192). -/
theorem fdPacketRule_status {s t : State} (h : fdPacketRule (s.beginCommand (encode .fdPacket)) = .ok t) :
    (t.status.valid = false ∧ t.status.newFrame = false ∧ t.status.indepFrame = false) ∨
      (t.status.valid = true ∧ t.status.newFrame = t.fdResult.newFrame ∧ t.status.indepFrame = t.fdResult.indepFrame) := by
  obtain rfl := fdPacketRule_ok h
  rcases fdPacket_cases (s.beginCommand (encode .fdPacket)).inputView (s.beginCommand (encode .fdPacket)) with
    ⟨n, m, x, y, hu⟩ | hu <;> rw [hu]
  · exact .inl ⟨rfl, rfl, rfl⟩
  · exact .inr ⟨rfl, rfl, rfl⟩

end Sys2Proof.Machine

namespace Sys2Proof.Proofs

open Sys2Proof.Machine Sys2Proof.Claims

/-- Settles O18: SOFT_RESET apart, every clause is a field of the frame equation. -/
theorem registerWriters : Obligations.RegisterWriters := by
  intro i s t h
  by_cases hr : i = .softReset
  · subst hr
    cases h
    exact ⟨rfl, rfl, rfl, rfl, rfl, fun _ => rfl, fun hne => absurd rfl hne⟩
  have hf := exec_frame hr h
  have hactive (hi : i ∉ brInits) : t.brState.active = s.brState.active := (congrArg (·.brState.active) hf).trans (if_neg hi)
  refine ⟨(congrArg State.params hf :), (congrArg State.host hf :), (congrArg State.hostReply hf :),
    (congrArg State.powerCycle hf :), congrArg State.cmd hf, fun hi => (congrArg State.freeCount hf).trans (if_neg hi), fun _ =>
    ⟨(congrArg State.addr hf :), (congrArg State.len hf :), (congrArg State.opa hf :), (congrArg State.opb hf :),
      (congrArg State.fdDefdur hf :),
      fun hi => (congrArg State.crc hf).trans (if_neg hi), fun hi => ⟨?_, ?_, hactive hi, exec_keeps_raw hr hi h⟩,
      fun hi hb => ?_, fun hi => (congrArg State.fdCfg hf).trans (if_neg hi), fun hi hp => ?_,
      fun hi => (congrArg State.res0 hf).trans (if_pos hi), fun hi => (congrArg State.res1 hf).trans (if_pos hi)⟩⟩
  · exact (congrArg State.brBase hf).trans (if_neg hi)
  · exact (congrArg State.brLen hf).trans (if_neg hi)
  · have hm : ¬movesCursor i := not_or.mpr ⟨hi, hb⟩
    have hbits : t.brState.bits = s.brState.bits := (congrArg (·.brState.bits) hf).trans (if_neg hm)
    exact ⟨(congrArg State.brIdx hf).trans (if_neg hm), congrArg₂ BrState.mk hbits (hactive hi)⟩
  · have hm : ¬writesDetector i := not_or.mpr ⟨hi, hp⟩
    exact ⟨(congrArg State.fdScanner hf).trans (if_neg hm), (congrArg State.fdH264 hf).trans (if_neg hm),
      (congrArg State.fdLog2mfn hf).trans (if_neg hm), (congrArg State.fdResult hf).trans (if_neg hm),
      (congrArg State.fdRate hf).trans (if_neg hm), (congrArg State.fdDuration hf).trans (if_neg hm),
      (congrArg State.fdSamples hf).trans (if_neg hm)⟩

/-- Settles O17: without an error every clause is a field of the STATUS equation or says what FD_PACKET or a BR read reports;
with one, no transient field is set and STICKY_ERR is. -/
theorem statusWriters : Obligations.StatusWriters := by
  intro i s t h
  by_cases hr : i = .softReset
  · subst hr
    cases h
    simp [State.resetWith, Status.zero, brReads]
  rw [exec_eq_command] at h
  rcases command_cases h with hok | ⟨e, he, rfl⟩
  · obtain ⟨-, hst⟩ := ruleOf_frame hr hok
    have herr : t.status.err = .noError := congrArg Status.err hst
    refine ⟨cond_of_reported (congrArg Status.valid hst), cond_of_reported (congrArg Status.needMore hst),
      cond_of_reported (congrArg Status.malformed hst), fun hf => ?_, fun hi hv => ?_,
      cond_of_reported (congrArg Status.brOvf hst), fun hd => ⟨cond_of_reported (congrArg Status.brEod hst) hd, herr⟩,
      fun hi _ => ?_, fun hi => ?_, fun hi => ?_⟩
    · have hi : i = .fdPacket := by
        rcases hf with hf | hf
        · exact cond_of_reported (congrArg Status.newFrame hst) hf
        · exact cond_of_reported (congrArg Status.indepFrame hst) hf
      subst hi
      rcases fdPacketRule_status hok with ⟨-, hn, hd⟩ | ⟨hv, -⟩
      · simp [hn, hd] at hf
      · exact ⟨rfl, hv⟩
    · subst hi
      rcases fdPacketRule_status hok with ⟨hnv, -⟩ | ⟨-, hcopy⟩
      · simp [hnv] at hv
      · exact hcopy
    · obtain ⟨r, v, ovf, rfl, -⟩ := brRead_ok hi hok
      rfl
    · exact ⟨(congrArg Status.stickyErr hst).trans (if_pos hi), (congrArg Status.busErr hst).trans (if_pos hi)⟩
    · have hsticky : t.status.stickyErr = s.status.stickyErr := (congrArg Status.stickyErr hst).trans (if_neg hi)
      exact ⟨(congrArg Status.busErr hst).trans (if_neg hi), by simp [hsticky, herr]⟩
  · obtain ⟨hne, hi⟩ := ruleOf_error he
    simp_all

end Sys2Proof.Proofs
end

section
/-! The invariant of Safety.lean: it holds after reset, and every command and every other host access keeps it, part by part (the
buffer list, the BR cursor, the rate inference, the flags). -/

namespace Sys2Proof.Machine

open Sys2Proof.Claims

/-! ## The buffer list: every write lies inside the buffer -/

theorem hasTs_len {P : View} {sel : TsSel} (h : hasTs P sel = true) : sel.pos + 5 ≤ P.len := by
  cases sel <;> simp only [hasTs, Bool.and_eq_true, decide_eq_true_eq] at h <;> exact h.2

/-- What the scan finds is the PES header of a packet of the view (43_ts_pes.md R162). -/
theorem scanTsFrom_some {V : View} {sel : TsSel} {fuel k n : Nat} {Q : View} (h : scanTsFrom V sel fuel k = some (n, Q)) :
    n * 188 < V.len ∧ Q = pesOf (packetAt V n) ∧ hasTs Q sel = true := by
  induction fuel generalizing k with
  | zero => cases h
  | succ fuel ih =>
    unfold scanTsFrom at h
    split_ifs at h with hk hc
    · cases h
      simp only [carriesTs, Bool.and_eq_true] at hc
      exact ⟨hk, rfl, hc.2⟩
    · exact ih h

/-- The timestamp the scan finds lies inside the view. -/
theorem scanTs_bound {V : View} {sel : TsSel} {n : Nat} {Q : View} (h : scanTs V sel = some (n, Q)) :
    Q.base + sel.pos + 5 ≤ V.base + V.len := by
  obtain ⟨hn, rfl, hts⟩ := scanTsFrom_some h
  have hlen := hasTs_len hts
  simp only [pesOf, packetAt, View.sub_base, View.sub_len] at hlen ⊢
  omega

/-- Bytes written inside the input view stay inside the buffer. -/
theorem setBytes_in_view_memOk {s : State} (hm : s.memOk) (hv : s.viewEnd ≤ s.params.bufSize) {a : Nat} {bs : List Byte}
    (hb : a + bs.length ≤ s.inputView.base + s.inputView.len) : (s.setBytes a bs).memOk :=
  State.setBytes_memOk hm (hb.trans (by rw [State.inputView_base, State.inputView_len]; exact hv))

/-- Every write of a command lies inside the buffer (20_memory.md R61, R65). -/
theorem ruleOf_memOk {i : Instr} {s t : State} (hm : s.memOk) (h : ruleOf i (s.beginCommand (encode i)) = .ok t) : t.memOk := by
  by_cases hw : i ∈ bufferWriters
  · have hm' : (s.beginCommand (encode i)).memOk := hm
    cases i <;> simp only [ruleOf] at h
    case crcAppend =>
      obtain ⟨hv, rfl⟩ := withViewAndTail_ok h
      exact State.setBytes_memOk hm' (by simpa using hv)
    case tsPcrSet =>
      obtain ⟨hv, rfl⟩ := withView_ok h
      split_ifs with hp
      · have hlen : 12 ≤ (s.beginCommand (encode .tsPcrSet)).inputView.len := by
          simp only [pcrPresent, Bool.and_eq_true, decide_eq_true_eq] at hp
          exact hp.2
        exact setBytes_in_view_memOk hm' hv (by rw [pcrBytes_length]; omega)
      · exact hm
    case pesSetTsPts | pesSetTsDts =>
      obtain ⟨hv, rfl⟩ := withView_ok h
      split_ifs with hp
      · have hlen := hasTs_len hp
        exact setBytes_in_view_memOk hm' hv (by rw [tsEncode_length]; omega)
      · exact hm
    case tsSetTsPts | tsSetTsDts =>
      obtain ⟨hv, rfl⟩ := withView_ok h
      split
      · exact hm
      · next k Q hp => exact setBytes_in_view_memOk hm' hv (scanTs_bound hp)
    all_goals exact absurd hw (by decide)
  · by_cases hr : i = .softReset
    · subst hr
      cases h
      exact hm
    · have hf := (ruleOf_frame hr h).1
      have hmem : t.mem = s.mem := (congrArg State.mem hf).trans (if_neg hw)
      have hpar : t.params = s.params := (congrArg State.params hf :)
      unfold State.memOk
      rw [hmem, hpar]
      exact hm

/-! ## The BR cursor -/

/-- BR_INIT starts a cursor inside a view that passed the range check; a BR read keeps it there (10_state.md R31). -/
theorem ruleOf_cursorOk {i : Instr} {s t : State} (hr : i ≠ .softReset) (hc : s.cursorOk)
    (h : ruleOf i (s.beginCommand (encode i)) = .ok t) : t.cursorOk := by
  obtain ⟨hidx, hview, hn, hz, hend⟩ := hc
  by_cases hi : i ∈ brInits
  · fin_cases hi
    all_goals
      simp only [ruleOf] at h
      obtain ⟨hv, rfl⟩ := withView_ok h
      exact ⟨Nat.zero_le _, hv, Nat.zero_le _, Nat.zero_le _, nofun⟩
  by_cases hb : i ∈ brReads
  · obtain ⟨r, v, ovf, rfl, -, hok⟩ := brRead_ok hb h
    obtain ⟨hidx', hn', hz', hend'⟩ := hok ⟨hidx, hn, hz, hend⟩
    exact ⟨hidx', hview, hn', hz', hend'⟩
  · have hf := (ruleOf_frame hr h).1
    have hm : ¬movesCursor i := not_or.mpr ⟨hi, hb⟩
    have hbits : t.brState.bits = s.brState.bits := (congrArg (·.brState.bits) hf).trans (if_neg hm)
    unfold State.cursorOk
    rw [hbits, (congrArg State.brIdx hf).trans (if_neg hm), (congrArg State.brLen hf).trans (if_neg hi),
      (congrArg State.brBase hf).trans (if_neg hi), (congrArg State.params hf :)]
    exact ⟨hidx, hview, hn, hz, hend⟩

/-! ## The rate inference -/

theorem postPacket_rateOk {V : View} {f : TsFields} {R : FdResult} {s : State} (hw : 0 < s.params.ptsWindow) (h : s.rateOk) :
    (postPacket V f R s).rateOk := by
  rcases postPacket_cases V f R s with hp | ⟨hsync, -, p, hp⟩ <;> rw [hp]
  · exact h
  · obtain ⟨hlt, hd, hrate⟩ := h.2 hsync
    exact addSample_rateOk hw hlt hd hrate

theorem fdPacket_rateOk {V : View} {s : State} (hw : 0 < s.params.ptsWindow) (h : s.rateOk) : (fdPacket V s).rateOk := by
  rcases fdPacket_cases V s with ⟨n, m, x, y, hu⟩ | hu <;> rw [hu]
  · exact h
  · exact postPacket_rateOk (s := { s with fdScanner := _, fdH264 := _, fdLog2mfn := _ }) hw h

theorem Params.ptsWindow_pos {p : Params} (h : p.legal = true) : 0 < p.ptsWindow := by
  simp only [Params.legal, Bool.and_eq_true, decide_eq_true_eq] at h
  omega

/-- FD_CONFIG empties the samples; FD_PACKET adds at most one, and only while scanning (10_state.md R40, R42). -/
theorem ruleOf_rateOk {i : Instr} {s t : State} (hr : i ≠ .softReset) (hp : s.params.legal = true) (hs : s.rateOk)
    (h : ruleOf i (s.beginCommand (encode i)) = .ok t) : t.rateOk := by
  have hw : 0 < s.params.ptsWindow := Params.ptsWindow_pos hp
  by_cases hi : i ∈ fdConfigs
  · fin_cases hi
    all_goals
      simp only [ruleOf] at h
      obtain ⟨-, rfl⟩ := pidOperand_ok h
      exact ⟨Nat.zero_le _, fun _ => ⟨hw, rfl, rfl⟩⟩
  by_cases hd : i = .fdPacket
  · subst hd
    obtain rfl := fdPacketRule_ok h
    exact fdPacket_rateOk hw hs
  · have hf := (ruleOf_frame hr h).1
    have hm : ¬writesDetector i := not_or.mpr ⟨hi, hd⟩
    unfold State.rateOk
    rw [(congrArg State.fdSamples hf).trans (if_neg hm), (congrArg State.fdRate hf).trans (if_neg hm),
      (congrArg State.fdDuration hf).trans (if_neg hm), (congrArg State.params hf :)]
    exact hs

/-! ## The flags: an independent frame is a new frame -/

/-- An independent frame is a new frame (45_frame_detector.md R193). -/
def FdResult.ok (R : FdResult) : Prop := R.indepFrame = true → R.newFrame = true

theorem FdResult.zero_ok : FdResult.zero.ok := nofun

theorem parseAudio_ok (f : TsFields) : (parseAudio f).ok := by
  unfold parseAudio
  split_ifs
  · exact fun _ => rfl
  · exact FdResult.zero_ok

theorem classifySlice_ok (f : SliceFields) (here : Nat) : (classifySlice f here).ok := by
  intro h
  simp only [classifySlice, Bool.and_eq_true] at h
  exact h.1

theorem mpeg2Scan_ok (V : View) (ahead : List Byte) (fuel pos : Nat) (c : ScanState) (h : c.result.ok) :
    (mpeg2Scan V ahead fuel pos c).result.ok := by
  induction fuel generalizing pos c with
  | zero => exact h
  | succ fuel ih =>
    unfold mpeg2Scan
    simp only
    split_ifs
    · exact fun _ => rfl
    · exact ih _ _ h
    · exact h

theorem h264Scan_ok (V : View) (ahead : List Byte) (fuel pos : Nat) (c : ScanState) (h : c.result.ok) :
    (h264Scan V ahead fuel pos c).result.ok := by
  induction fuel generalizing pos c with
  | zero => exact h
  | succ fuel ih =>
    unfold h264Scan
    simp only
    split_ifs
    · exact ih _ _ h
    · rcases readSps (headerNext V) (headerReader pos ahead false) with ⟨p, H⟩
      simp only
      split_ifs
      · exact h
      · exact ih _ _ h
    · exact classifySlice_ok _ _
    · exact ih _ _ h
    · exact ih _ _ h
    · exact h

theorem parsePacket_ok (V : View) (f : TsFields) (cfg : FdCfg) (c : ScanState) (h : c.result.ok) :
    (parsePacket V f cfg c).result.ok := by
  unfold parsePacket
  split
  · exact parseAudio_ok f
  · exact mpeg2Scan_ok _ _ _ _ _ h
  · exact h264Scan_ok _ _ _ _ _ h

theorem fdPacket_result_ok {V : View} {s : State} (h : s.fdResult.ok) : (fdPacket V s).fdResult.ok := by
  rcases fdPacket_cases V s with ⟨n, m, x, y, hu⟩ | hu <;> rw [hu]
  · exact h
  · exact parsePacket_ok V _ _ (s.scanState _) FdResult.zero_ok

theorem ruleOf_result_ok {i : Instr} {s t : State} (hr : i ≠ .softReset) (hs : s.fdResult.ok)
    (h : ruleOf i (s.beginCommand (encode i)) = .ok t) : t.fdResult.ok := by
  by_cases hi : i ∈ fdConfigs
  · fin_cases hi
    all_goals
      simp only [ruleOf] at h
      obtain ⟨-, rfl⟩ := pidOperand_ok h
      exact FdResult.zero_ok
  by_cases hd : i = .fdPacket
  · subst hd
    obtain rfl := fdPacketRule_ok h
    exact fdPacket_result_ok hs
  · rwa [(congrArg State.fdResult (ruleOf_frame hr h).1).trans (if_neg (not_or.mpr ⟨hi, hd⟩))]

theorem ruleOf_flagsOk {i : Instr} {s t : State} (hr : i ≠ .softReset) (hs : s.flagsOk)
    (h : ruleOf i (s.beginCommand (encode i)) = .ok t) : t.flagsOk := by
  have hst := (ruleOf_frame hr h).2
  have hres := ruleOf_result_ok hr hs.2.2 h
  refine ⟨fun hne => absurd (congrArg Status.err hst) hne, fun hd => ?_, hres⟩
  obtain rfl := cond_of_reported (congrArg Status.indepFrame hst) hd
  rcases fdPacketRule_status h with ⟨-, -, hnd⟩ | ⟨-, hn, hd'⟩
  · rw [hnd] at hd
    cases hd
  · exact hn.trans (hres (hd'.symm.trans hd))

/-! ## Reset, commands, host accesses -/

theorem State.resetWith_inv {p : Params} (hp : p.legal = true) : (State.resetWith p).Inv where
  params := hp
  mem := ⟨rfl, nofun⟩
  cursor := ⟨Nat.le_refl _, Nat.zero_le _, Nat.zero_le _, Nat.zero_le _, nofun⟩
  rate := ⟨Nat.zero_le _, fun _ => ⟨Params.ptsWindow_pos hp, rfl, rfl⟩⟩
  flags := ⟨fun h => absurd rfl h, nofun, nofun⟩

theorem State.softReset_inv {s : State} (h : s.Inv) : s.softReset.Inv :=
  let hreset := State.resetWith_inv h.params
  ⟨hreset.params, h.mem, hreset.cursor, hreset.rate, hreset.flags⟩

theorem State.powerOn_inv {s : State} (h : s.Inv) : s.powerOn.Inv :=
  let hreset := State.resetWith_inv h.params
  ⟨hreset.params, hreset.mem, hreset.cursor, hreset.rate, hreset.flags⟩

/-- An error sets STICKY_ERR and changes no other part of the invariant (40_control.md R102). -/
theorem State.raise_inv {s : State} (h : s.Inv) (w : Word) (e : ErrCode) : ((s.beginCommand w).raise e).Inv :=
  ⟨h.params, h.mem, h.cursor, h.rate, fun _ => rfl, nofun, h.flags.2.2⟩

theorem exec_keeps_inv {i : Instr} {s t : State} (hs : s.Inv) (h : exec i s = .next t) : t.Inv := by
  by_cases hr : i = .softReset
  · subst hr
    cases h
    exact State.softReset_inv ⟨hs.params, hs.mem, hs.cursor, hs.rate, fun h => absurd rfl h, nofun, hs.flags.2.2⟩
  rw [exec_eq_command] at h
  rcases command_cases h with hok | ⟨e, -, rfl⟩
  · exact
      { params := (congrArg (·.params.legal) (ruleOf_frame hr hok).1).trans hs.params
        mem := ruleOf_memOk hs.mem hok
        cursor := ruleOf_cursorOk hr hs.cursor hok
        rate := ruleOf_rateOk hr hs.params hs.rate hok
        flags := ruleOf_flagsOk hr hs.flags hok }
  · exact State.raise_inv hs _ e

theorem runCommand_keeps_inv {w : Word} {s t : State} (hs : s.Inv) (h : runCommand w s = .next t) : t.Inv := by
  unfold runCommand at h
  split at h
  · exact exec_keeps_inv hs h
  · cases h
    exact State.raise_inv hs w .illegal

/-- A buffer access of the bus ends inside the buffer (20_memory.md R68). -/
theorem busTarget_buffer {n a width : Nat} {addr : BitVec 17} (h : busTarget n addr width = .buffer a) : a + width ≤ n := by
  unfold busTarget at h
  simp only at h
  split_ifs at h with h1 h2 h3
  · split at h <;> cases h
  · obtain rfl := BusTarget.buffer.inj h
    exact h3.2.2

/-- Everything a host write can do (20_memory.md R66 to R70). -/
theorem hostWrite_cases {addr : BitVec 17} {width : Nat} {v : Word} {s t : State} (h : hostWrite addr width v s = .next t) :
    runCommand v s = .next t ∨ (∃ r, t = s.writeReg r v) ∨
      (∃ a, a + width ≤ s.params.bufSize ∧ t = s.setBytes a (leBytes width v.toNat)) ∨ t = s.busError := by
  unfold hostWrite at h
  split at h
  · exact .inl h
  · next r _ _ =>
    cases h
    exact .inr (.inl ⟨r, rfl⟩)
  · next a ha =>
    cases h
    exact .inr (.inr (.inl ⟨a, busTarget_buffer ha, rfl⟩))
  · cases h
    exact .inr (.inr (.inr rfl))

theorem State.writeReg_inv {s : State} (h : s.Inv) (r : Reg) (v : Word) : (s.writeReg r v).Inv := by
  cases r <;> exact ⟨h.params, h.mem, h.cursor, h.rate, h.flags⟩

theorem State.setBytes_inv {s : State} (h : s.Inv) {a : Nat} {bs : List Byte} (hb : a + bs.length ≤ s.params.bufSize) :
    (s.setBytes a bs).Inv := by
  have hm := State.setBytes_memOk h.mem hb
  rw [State.setBytes_eq] at hm ⊢
  exact ⟨h.params, hm, h.cursor, h.rate, h.flags⟩

theorem State.busError_inv {s : State} (h : s.Inv) : s.busError.Inv := ⟨h.params, h.mem, h.cursor, h.rate, h.flags⟩

theorem hostWrite_keeps_inv {addr : BitVec 17} {width : Nat} {v : Word} {s t : State} (hs : s.Inv)
    (h : hostWrite addr width v s = .next t) : t.Inv := by
  rcases hostWrite_cases h with hc | ⟨r, rfl⟩ | ⟨a, ha, rfl⟩ | rfl
  · exact runCommand_keeps_inv hs hc
  · exact State.writeReg_inv hs r v
  · exact State.setBytes_inv hs (by rwa [leBytes_length])
  · exact State.busError_inv hs

theorem State.hostRead_inv {s : State} (h : s.Inv) (addr : BitVec 17) (width : Nat) : (s.hostRead addr width).Inv := by
  unfold State.hostRead
  split <;> exact ⟨h.params, h.mem, h.cursor, h.rate, h.flags⟩

theorem hostOp_keeps_inv {op : HostOp} {s t : State} (hs : s.Inv) (h : hostOp op s = .next t) : t.Inv := by
  cases op with
  | read addr width =>
    cases h
    exact State.hostRead_inv hs addr width
  | write addr width v => exact hostWrite_keeps_inv hs h
  | powerOn =>
    cases h
    exact State.powerOn_inv hs

end Sys2Proof.Machine

namespace Sys2Proof.Proofs

open Sys2Proof.Machine Sys2Proof.Claims

/-- Settles O59. -/
theorem invariantAtReset : Obligations.InvariantAtReset :=
  ⟨fun _ hp => State.resetWith_inv hp, State.resetWith_inv (by decide)⟩

/-- Settles O60: an idle step changes nothing; any other takes the next access off, which no part of the invariant speaks of,
and does it. -/
theorem invariantKept : Obligations.InvariantKept := by
  intro s t hs h
  unfold step at h
  split at h
  · cases h
    exact hs
  · next op rest _ =>
    have hs' : ({ s with host := rest } : State).Inv := ⟨hs.params, hs.mem, hs.cursor, hs.rate, hs.flags⟩
    exact hostOp_keeps_inv hs' h

end Sys2Proof.Proofs
end

section
/-! Noninterference (20_memory.md R63, R77): two states that differ in buffer bytes only, and what each operation makes of them.
A command reads the buffer through its input view or through the BR cursor, and writes it by runs of bytes. -/

namespace Sys2Proof.Machine

open Sys2Proof.Claims

/-! ## States that agree on a set of buffer bytes -/

/-- `s` with another list of written bytes. -/
def State.withMem (s : State) (m : List Host.Cell) : State := { s with mem := m }

@[simp] theorem State.withMem_fdCfg (s : State) (m : List Host.Cell) : (s.withMem m).fdCfg = s.fdCfg := rfl
@[simp] theorem State.withMem_brReader (s : State) (m : List Host.Cell) : (s.withMem m).brReader = s.brReader := rfl

theorem State.eq_withMem {s s' : State} (h : besidesBuffer s = besidesBuffer s') : s' = s.withMem s'.mem :=
  calc s' = (besidesBuffer s').withMem s'.mem := rfl
    _ = s.withMem s'.mem := by rw [← h]; rfl

theorem besidesBuffer_setBytes (s : State) (a : Nat) (bs : List Byte) :
    besidesBuffer (s.setBytes a bs) = besidesBuffer s := by
  rw [State.setBytes_eq]
  rfl

/-- `s` and `s'` differ at most in the buffer bytes outside `P`. -/
structure AgreeOn (P : Nat → Prop) (s s' : State) : Prop where
  besides : besidesBuffer s = besidesBuffer s'
  bufByte : ∀ a, P a → s.bufByte a = s'.bufByte a

/-- The same update of registers, neither reading nor writing the buffer, keeps states in agreement. -/
theorem AgreeOn.registers {P : Nat → Prop} {s s' u u' : State} (h : AgreeOn P s s') (hu : u' = u.withMem s'.mem := by rfl)
    (hmem : u.mem = s.mem := by rfl) (hcycle : u.powerCycle = s.powerCycle := by rfl) : AgreeOn P u u' where
  besides := by rw [hu]; rfl
  bufByte := fun a ha => by
    have hcycle' : s'.powerCycle = s.powerCycle := (congrArg State.powerCycle h.besides.symm :)
    have hb := h.bufByte a ha
    unfold State.bufByte at hb ⊢
    rw [hu]
    simpa only [State.withMem, hmem, hcycle, hcycle'] using hb

namespace AgreeOn

variable {P : Nat → Prop} {s s' : State} (h : AgreeOn P s s')
include h

theorem setBytes (a : Nat) (bs : List Byte) : AgreeOn P (s.setBytes a bs) (s'.setBytes a bs) where
  besides := by rw [besidesBuffer_setBytes, besidesBuffer_setBytes, h.besides]
  bufByte := fun x hx => by rw [State.bufByte_setBytes, State.bufByte_setBytes, h.bufByte x hx]

/-- The report of a command that ends with STATUS.VALID = 1 and a value in RES0. -/
theorem report (x : DWord) : AgreeOn P { s.reportValid true with res0 := x } { s'.reportValid true with res0 := x } := by
  rw [State.eq_withMem h.besides]
  exact h.registers

/-- The same with a value in RES1. -/
theorem report_res1 (x y : DWord) :
    AgreeOn P { s.reportValid true with res0 := x, res1 := y } { s'.reportValid true with res0 := x, res1 := y } := by
  rw [State.eq_withMem h.besides]
  exact h.registers

/-- The input view is the same where it lies in the common bytes. -/
theorem inputView (hP : ∀ a, s.addr.toNat ≤ a ∧ a < s.addr.toNat + s.len.toNat → P a) : s'.inputView = s.inputView := by
  have haddr : s'.addr = s.addr := (congrArg State.addr h.besides.symm :)
  have hlen : s'.len = s.len := (congrArg State.len h.besides.symm :)
  unfold State.inputView State.view
  rw [haddr, hlen, State.bytes_congr fun i hi => (h.bufByte (s.addr.toNat + i) (hP _ (by omega))).symm]

end AgreeOn

/-! ## Rules -/

/-- The outcomes of a rule agree: both end with the same error, or in states that agree. -/
inductive OutcomesAgree (P : Nat → Prop) : Except ErrCode State → Except ErrCode State → Prop where
  | ok {t t' : State} (h : AgreeOn P t t') : OutcomesAgree P (.ok t) (.ok t')
  | error (e : ErrCode) : OutcomesAgree P (.error e) (.error e)

/-- A check both states pass or both fail. -/
theorem OutcomesAgree.check {P : Nat → Prop} {c : Prop} [Decidable c] {e : ErrCode} {x x' : Except ErrCode State}
    (h : OutcomesAgree P x x') : OutcomesAgree P (if c then .error e else x) (if c then .error e else x') := by
  split_ifs
  · exact .error e
  · exact h

namespace AgreeOn

variable {P : Nat → Prop} {s s' : State} (h : AgreeOn P s s')
include h

theorem beginCommand (w : Word) : AgreeOn P (s.beginCommand w) (s'.beginCommand w) := by
  rw [State.eq_withMem h.besides]
  exact h.registers

theorem withView {g g' : View → State} (hV : s'.inputView = s.inputView) (hg : ∀ V, AgreeOn P (g V) (g' V)) :
    OutcomesAgree P (withView s g) (withView s' g') := by
  unfold Machine.withView
  rw [hV, State.eq_withMem h.besides]
  exact .check (.ok (hg _))

theorem withViewAndTail {g g' : View → State} (hV : s'.inputView = s.inputView) (hg : ∀ V, AgreeOn P (g V) (g' V)) :
    OutcomesAgree P (withViewAndTail s g) (withViewAndTail s' g') := by
  unfold Machine.withViewAndTail
  rw [hV, State.eq_withMem h.besides]
  exact .check (.ok (hg _))

theorem activeCursor {x x' : Except ErrCode State} (hx : OutcomesAgree P x x') :
    OutcomesAgree P (activeCursor s x) (activeCursor s' x') := by
  have hbr : s'.brState = s.brState := (congrArg State.brState h.besides.symm :)
  unfold Machine.activeCursor
  rw [hbr]
  split_ifs
  · exact hx
  · exact .error _

theorem configuredDetector {x x' : Except ErrCode State} (hx : OutcomesAgree P x x') :
    OutcomesAgree P (configuredDetector s x) (configuredDetector s' x') := by
  have hcfg : s'.fdCfg = s.fdCfg := (congrArg State.fdCfg h.besides.symm :)
  unfold Machine.configuredDetector
  rw [hcfg]
  split_ifs
  · exact hx
  · exact .error _

theorem bitCountOperand {g g' : Nat → State} (hg : ∀ n, AgreeOn P (g n) (g' n)) :
    OutcomesAgree P (bitCountOperand s g) (bitCountOperand s' g') := by
  unfold Machine.bitCountOperand
  rw [State.eq_withMem h.besides]
  exact .check (.ok (hg _))

theorem pidOperand {g g' : BitVec 13 → State} (hg : ∀ pid, AgreeOn P (g pid) (g' pid)) :
    OutcomesAgree P (pidOperand s g) (pidOperand s' g') := by
  unfold Machine.pidOperand
  rw [State.eq_withMem h.besides]
  exact .check (.ok (hg _))

/-- A command ends in states that agree if its rule's outcomes agree. -/
theorem command {w : Word} {rule : State → Except ErrCode State} {t t' : State}
    (hr : OutcomesAgree P (rule (s.beginCommand w)) (rule (s'.beginCommand w)))
    (ht : command w rule s = .next t) (ht' : command w rule s' = .next t') : AgreeOn P t t' := by
  unfold Machine.command at ht ht'
  generalize rule (s.beginCommand w) = x, rule (s'.beginCommand w) = x' at hr ht ht'
  cases hr with
  | ok hs =>
    cases ht
    cases ht'
    exact hs
  | error e =>
    cases ht
    cases ht'
    rw [State.eq_withMem h.besides]
    exact h.registers

end AgreeOn

/-! ## Reads through a cursor -/

/-- Two sources deliver the same from every place in `J`, and stay in it. -/
structure SameFrom {σ : Type} (J : σ → Prop) (next next' : Source σ) : Prop where
  same : ∀ x, J x → next' x = next x
  stays : ∀ x, J x → J (next x).2

namespace SameFrom

variable {σ : Type} {J : σ → Prop} {next next' : Source σ} (h : SameFrom J next next')
include h

theorem fetchRaw {r : Reader σ} (hr : J r.src) :
    fetchRaw next' r = fetchRaw next r ∧ J (fetchRaw next r).2.src := by
  have hs := h.stays r.src hr
  unfold Machine.fetchRaw
  rw [h.same r.src hr]
  rcases hn : next r.src with ⟨_ | b, x⟩ <;> rw [hn] at hs <;> exact ⟨rfl, hs⟩

theorem fetch {r : Reader σ} (hr : J r.src) : fetch next' r = fetch next r ∧ J (fetch next r).2.src := by
  obtain ⟨h1, hJ⟩ := h.fetchRaw hr
  unfold Machine.fetch
  rw [h1]
  rcases hf : Machine.fetchRaw next r with ⟨b, r1⟩
  rw [hf] at hJ
  obtain ⟨h2, hJ2⟩ := h.fetchRaw hJ
  simp only
  rw [h2]
  split_ifs
  · exact ⟨rfl, hJ⟩
  · exact ⟨rfl, hJ2⟩
  · exact ⟨rfl, hJ⟩

theorem refill {r : Reader σ} (hr : J r.src) : refill next' r = refill next r ∧ J (refill next r).src := by
  obtain ⟨h1, hJ⟩ := h.fetch hr
  unfold Machine.refill
  rw [h1]
  split_ifs
  · exact ⟨rfl, hJ⟩
  · exact ⟨rfl, hr⟩

theorem getBit {r : Reader σ} (hr : J r.src) : getBit next' r = getBit next r ∧ J (getBit next r).2.src := by
  obtain ⟨h1, hJ⟩ := h.refill hr
  rw [getBit_eq, getBit_eq, h1]
  exact ⟨rfl, hJ⟩

theorem readByte {r : Reader σ} (hr : J r.src) : readByte next' r = readByte next r ∧ J (readByte next r).2.src :=
  h.fetch (r := { r with bits := { r.bits with nbits := 0 } }) hr

theorem getBitsFrom {r : Reader σ} (hr : J r.src) (v n : Nat) :
    getBitsFrom next' v n r = getBitsFrom next v n r ∧ J (getBitsFrom next v n r).2.src := by
  induction n generalizing r v with
  | zero => exact ⟨rfl, hr⟩
  | succ n ih =>
    obtain ⟨h1, hJ⟩ := h.getBit hr
    rw [getBitsFrom_succ, getBitsFrom_succ, h1]
    exact ih hJ _

theorem leadingZeros {r : Reader σ} (hr : J r.src) (z n : Nat) :
    leadingZeros next' z n r = leadingZeros next z n r ∧ J (leadingZeros next z n r).2.src := by
  induction n generalizing r z with
  | zero => exact ⟨rfl, hr⟩
  | succ n ih =>
    obtain ⟨h1, hJ⟩ := h.getBit hr
    rw [leadingZeros_succ, leadingZeros_succ, h1]
    split_ifs
    · exact ⟨rfl, hJ⟩
    · exact ih hJ _

theorem readUe {r : Reader σ} (hr : J r.src) : readUe next' r = readUe next r := by
  obtain ⟨h1, hJ⟩ := h.leadingZeros hr 0 32
  unfold Machine.readUe
  rw [h1]
  rcases hz : Machine.leadingZeros next 0 32 r with ⟨_ | z, r1⟩
  · rfl
  · rw [hz] at hJ
    simp only [getBits]
    rw [(h.getBitsFrom hJ 0 z).1]

theorem readSe {r : Reader σ} (hr : J r.src) : readSe next' r = readSe next r := by
  unfold Machine.readSe
  rw [h.readUe hr]

end SameFrom

/-- BR_IDX at or beyond `k`. -/
def AtOrBeyond (k : Nat) (idx : Word) : Prop := k ≤ idx.toNat

/-- The BR cursor's source depends on the view's bytes at and beyond BR_IDX only (20_memory.md R77). -/
theorem AgreeOn.brSource {P : Nat → Prop} {s s' : State} (h : AgreeOn P s s') (k : Nat)
    (hP : ∀ a, s.brBase.toNat + k ≤ a ∧ a < s.brBase.toNat + s.brLen.toNat → P a) :
    SameFrom (AtOrBeyond k) s.brSource s'.brSource where
  same := by
    intro idx hidx
    have hbase : s'.brBase = s.brBase := (congrArg State.brBase h.besides.symm :)
    have hlen : s'.brLen = s.brLen := (congrArg State.brLen h.besides.symm :)
    unfold State.brSource
    rw [hbase, hlen]
    split_ifs
    · rw [h.bufByte _ (hP _ ⟨Nat.add_le_add_left hidx _, by omega⟩)]
    · rfl
  stays := by
    intro idx hidx
    unfold State.brSource
    split_ifs with hlt
    · have hsucc : (idx + 1).toNat = idx.toNat + 1 := by bv_omega
      exact hidx.trans (by rw [hsucc]; omega)
    · exact hidx

/-! ## Rules on a view do not read the buffer again -/

theorem sectCheck_withMem (V : View) (s : State) (m : List Host.Cell) :
    sectCheck V (s.withMem m) = (sectCheck V s).withMem m := by
  unfold sectCheck
  simp only
  split_ifs <;> rfl

theorem postPacket_withMem (V : View) (f : TsFields) (R : FdResult) (s : State) (m : List Host.Cell) :
    postPacket V f R (s.withMem m) = (postPacket V f R s).withMem m := by
  unfold postPacket addSample State.withMem
  simp only
  split_ifs <;> rfl

/-- The registers a parser leaves its findings in (45_frame_detector.md R192). -/
def ScanState.store (c : ScanState) (s : State) : State :=
  { s with fdScanner := c.scanner, fdH264 := c.flags, fdLog2mfn := c.log2mfn }

/-- The report of a processed packet with result record `R` (45_frame_detector.md R192). -/
def reportPacket (R : FdResult) (t : State) : State :=
  { t with
    res0 := 188, fdResult := R, res1 := R.word.setWidth 64
    status := { t.status with valid := true, newFrame := R.newFrame, indepFrame := R.indepFrame } }

theorem processPacket_eq (V : View) (f : TsFields) (s : State) :
    processPacket V f s =
      reportPacket (parsePacket V f s.fdCfg (s.scanState f)).result
        (postPacket V f (parsePacket V f s.fdCfg (s.scanState f)).result ((parsePacket V f s.fdCfg (s.scanState f)).store s)) :=
  rfl

theorem processPacket_withMem (V : View) (f : TsFields) (s : State) (m : List Host.Cell) :
    processPacket V f (s.withMem m) = (processPacket V f s).withMem m := by
  rw [processPacket_eq, processPacket_eq]
  exact congrArg (reportPacket _) (postPacket_withMem V f _ (ScanState.store _ s) m)

theorem fdPacket_withMem (V : View) (s : State) (m : List Host.Cell) :
    fdPacket V (s.withMem m) = (fdPacket V s).withMem m := by
  unfold fdPacket
  rw [State.withMem_fdCfg, processPacket_withMem]
  split_ifs <;> rfl

theorem fdPacket_mem (V : View) (s : State) : (fdPacket V s).mem = s.mem ∧ (fdPacket V s).powerCycle = s.powerCycle := by
  rcases fdPacket_cases V s with ⟨n, m, x, y, hu⟩ | hu <;> rw [hu]
  · exact ⟨rfl, rfl⟩
  · exact ⟨postPacket_mem _ _ _ _, postPacket_powerCycle _ _ _ _⟩

/-! ## Every command -/

/-- A BR read whose view from BR_IDX on lies in the common bytes. -/
theorem AgreeOn.ruleOf_brRead {P : Nat → Prop} {s s' : State} (h : AgreeOn P s s') {i : Instr} (hb : i ∈ brReads)
    (hP : ∀ a, s.brBase.toNat + s.brIdx.toNat ≤ a ∧ a < s.brBase.toNat + s.brLen.toNat → P a) :
    OutcomesAgree P (ruleOf i s) (ruleOf i s') := by
  have hsrc := h.brSource s.brIdx.toNat hP
  have hidx : AtOrBeyond s.brIdx.toNat s.brReader.src := Nat.le_refl _
  obtain ⟨m, rfl⟩ : ∃ m, s' = s.withMem m := ⟨_, State.eq_withMem h.besides⟩
  cases i <;> simp only [Machine.ruleOf]
  case brBit =>
    refine h.activeCursor ?_
    rw [State.withMem_brReader, (hsrc.getBit hidx).1]
    exact .ok h.registers
  case brBits =>
    refine h.activeCursor (h.bitCountOperand fun n => ?_)
    rw [State.withMem_brReader, getBits, getBits, (hsrc.getBitsFrom hidx 0 n).1]
    exact h.registers
  case brUe =>
    refine h.activeCursor ?_
    rw [State.withMem_brReader, hsrc.readUe hidx]
    exact .ok h.registers
  case brSe =>
    refine h.activeCursor ?_
    rw [State.withMem_brReader, hsrc.readSe hidx]
    exact .ok h.registers
  case brByte =>
    refine h.activeCursor ?_
    rw [State.withMem_brReader, (hsrc.readByte hidx).1]
    exact .ok h.registers
  all_goals exact absurd hb (by decide)

/-- A command whose view, or whose BR view from BR_IDX on, lies in the common bytes. -/
theorem AgreeOn.ruleOf {P : Nat → Prop} {s s' : State} (h : AgreeOn P s s') {i : Instr} (hP : ∀ a, mayRead s i a → P a) :
    OutcomesAgree P (ruleOf i s) (ruleOf i s') := by
  by_cases hb : i ∈ brReads
  · exact h.ruleOf_brRead hb fun a ha => hP a (by rwa [mayRead, if_pos hb])
  have hV := h.inputView fun a ha => hP a (by rwa [mayRead, if_neg hb])
  obtain ⟨m, rfl⟩ : ∃ m, s' = s.withMem m := ⟨_, State.eq_withMem h.besides⟩
  cases i <;> simp only [Machine.ruleOf]
  case brBit | brBits | brUe | brSe | brByte => exact absurd (by decide) hb
  case nop => exact .ok h
  case clrStatus | softReset | crcInit | crcSeed | t33Diff | t33Add => exact .ok h.registers
  case brInit | brInitRaw | crcUpdate | crcCheck | crcCheckAcc | tsHdr | pesAnalyze =>
    exact h.withView hV fun V => h.registers
  case sectCheck =>
    refine h.withView hV fun V => h.registers (sectCheck_withMem V s m) ?_ ?_ <;> rw [sectCheck_frame]
  case fdConfigAudio | fdConfigMpeg2 | fdConfigH264 => exact h.pidOperand fun pid => h.registers
  case fdPacket =>
    exact h.configuredDetector (h.withView hV fun V =>
      h.registers (fdPacket_withMem V s m) (fdPacket_mem V s).1 (fdPacket_mem V s).2)
  case tsPcrGet | pesGetTsPts | pesGetTsDts =>
    refine h.withView hV fun V => ?_
    split_ifs <;> exact h.registers
  case tsFindTsPts | tsFindTsDts =>
    refine h.withView hV fun V => ?_
    split <;> exact h.registers
  case crcAppend =>
    exact h.withViewAndTail hV fun V => (h.setBytes _ _).report _
  case tsPcrSet | pesSetTsPts | pesSetTsDts =>
    refine h.withView hV fun V => ?_
    split_ifs
    · exact (h.setBytes _ _).report _
    · exact h.registers
  case tsSetTsPts | tsSetTsDts =>
    refine h.withView hV fun V => ?_
    split
    · exact h.registers
    · exact (h.setBytes _ _).report_res1 _ _

/-- Two states that agree, the bytes the command may read among those they agree on, are led to states that agree. -/
theorem AgreeOn.exec {P : Nat → Prop} {s s' t t' : State} (h : AgreeOn P s s') {i : Instr} (hP : ∀ a, mayRead s i a → P a)
    (ht : exec i s = .next t) (ht' : exec i s' = .next t') : AgreeOn P t t' := by
  rw [exec_eq_command] at ht ht'
  exact h.command ((h.beginCommand (encode i)).ruleOf hP) ht ht'

end Sys2Proof.Machine

namespace Sys2Proof.Proofs

open Sys2Proof.Machine Sys2Proof.Claims

/-- Settles O20: the states agree on the bytes they have in common, and every command keeps that agreement. -/
theorem noReadOutsideTheView : Obligations.NoReadOutsideTheView := by
  intro i s s' t t' hs hread ht ht'
  have h : AgreeOn (fun a => s.bufByte a = s'.bufByte a) s s' := ⟨hs, fun _ ha => ha⟩
  have h' := h.exec hread ht ht'
  exact ⟨h'.besides, h'.bufByte⟩

end Sys2Proof.Proofs
end

section
/-! Runs of bytes as numbers (20_memory.md R64, R69), and what a host access of the buffer or an erroneous one does (R66 to
R69). -/

namespace Sys2Proof.Machine

open Sys2Proof.Claims

/-! ## Big-endian and little-endian runs -/

theorem foldl_beValue (bs : List Byte) (v : Nat) :
    bs.foldl (fun v b => v * 256 + b.toNat) v = v * 2 ^ (8 * bs.length) + beValue bs := by
  induction bs generalizing v with
  | nil => simp [beValue]
  | cons b bs ih =>
    unfold beValue
    simp only [List.foldl_cons, List.length_cons]
    rw [ih, ih (0 * 256 + b.toNat), Nat.mul_add 8, pow_add]
    ring

/-- The first byte is the most significant (20_memory.md R64). -/
theorem beValue_cons (b : Byte) (bs : List Byte) : beValue (b :: bs) = b.toNat * 2 ^ (8 * bs.length) + beValue bs := by
  rw [← foldl_beValue, beValue, List.foldl_cons, Nat.zero_mul, Nat.zero_add]

theorem State.memRead_eq_sum (s : State) (a n : Nat) :
    s.memRead a n = ((List.range n).map fun i => (s.bufByte (a + i)).toNat * 2 ^ (8 * (n - 1 - i))).sum := by
  unfold State.memRead
  induction n generalizing a with
  | zero => rfl
  | succ n ih =>
    rw [State.bytes, beValue_cons, State.bytes_length, ih, List.range_succ_eq_map]
    simp [Function.comp_def, Nat.add_assoc, Nat.add_comm 1, Nat.sub_sub]

theorem State.leValue_bytes_eq_sum (s : State) (a n : Nat) :
    leValue (s.bytes a n) = ((List.range n).map fun i => (s.bufByte (a + i)).toNat * 2 ^ (8 * i)).sum := by
  induction n generalizing a with
  | zero => rfl
  | succ n ih =>
    rw [State.bytes, leValue, ih, List.range_succ_eq_map]
    simp [Function.comp_def, Nat.add_assoc, Nat.add_comm 1, ← List.sum_map_mul_left, Nat.mul_add, pow_add]
    congr 2
    funext i
    ring

theorem beBytes_getD {n i : Nat} (v : Nat) (h : i < n) :
    (beBytes n v).getD i 0 = BitVec.ofNat 8 (v / 2 ^ (8 * (n - 1 - i))) := by
  induction n generalizing i with
  | zero => omega
  | succ n ih =>
    cases i with
    | zero => simp [beBytes, Nat.shiftRight_eq_div_pow]
    | succ i => simpa [beBytes, Nat.sub_sub, Nat.add_comm 1] using ih (i := i) (by omega)

theorem leBytes_getD {n i : Nat} (v : Nat) (h : i < n) : (leBytes n v).getD i 0 = BitVec.ofNat 8 (v / 2 ^ (8 * i)) := by
  induction n generalizing i v with
  | zero => omega
  | succ n ih =>
    cases i with
    | zero => simp [leBytes]
    | succ i =>
      have hexp : v / 2 ^ (8 * (i + 1)) = (v >>> 8) / 2 ^ (8 * i) := by
        rw [Nat.shiftRight_eq_div_pow, Nat.div_div_eq_div_mul, ← pow_add, Nat.mul_succ, Nat.add_comm]
      rw [hexp, ← ih (v >>> 8) (by omega : i < n)]
      simp [leBytes]

/-- One more byte below a number. -/
theorem shiftLeft_or_byte (x : Nat) (b : Byte) : x <<< 8 ||| b.toNat = x * 2 ^ 8 + b.toNat := by
  rw [← Nat.shiftLeft_add_eq_or_of_lt b.isLt, Nat.shiftLeft_eq]

theorem View.u16_eq (V : View) (i : Nat) : V.u16 i = (V.get i).toNat * 2 ^ 8 + (V.get (i + 1)).toNat :=
  shiftLeft_or_byte _ _

theorem View.u32_eq (V : View) (i : Nat) :
    V.u32 i = (V.get i).toNat * 2 ^ 24 + (V.get (i + 1)).toNat * 2 ^ 16 + (V.get (i + 2)).toNat * 2 ^ 8 +
      (V.get (i + 3)).toNat := by
  have horner : V.u32 i =
      (((V.get i).toNat <<< 8 ||| (V.get (i + 1)).toNat) <<< 8 ||| (V.get (i + 2)).toNat) <<< 8 ||| (V.get (i + 3)).toNat := by
    simp only [View.u32, Nat.shiftLeft_or_distrib, ← Nat.shiftLeft_add]
  rw [horner, shiftLeft_or_byte, shiftLeft_or_byte, shiftLeft_or_byte]
  ring

/-! ## The bus at the buffer, and at an erroneous access -/

theorem Params.bufSize_le {p : Params} (h : p.legal = true) : p.bufSize ≤ 65536 := by
  have hall : ∀ n ∈ [512, 1024, 2048, 4096, 8192, 16384, 32768, 65536], n ≤ 65536 := by decide
  simp only [Params.legal, Bool.and_eq_true, List.contains_iff_mem] at h
  exact hall _ h.1.1

/-- A naturally aligned access inside the buffer reaches it (20_memory.md R66, R68). -/
theorem busTarget_bufferAddress {n a width : Nat} (hn : n ≤ 65536) (hw : width = 1 ∨ width = 2 ∨ width = 4)
    (ha : a % width = 0) (hb : a + width ≤ n) : busTarget n (BitVec.ofNat 17 (0x10000 + a)) width = .buffer a := by
  have hwidth : 0 < width := by omega
  have haddr : (BitVec.ofNat 17 (0x10000 + a)).toNat = 0x10000 + a := by
    rw [BitVec.toNat_ofNat]
    omega
  have halign : (0x10000 + a) % width = 0 := by rcases hw with rfl | rfl | rfl <;> omega
  unfold busTarget
  simp only [haddr, Nat.add_sub_cancel_left]
  rw [if_neg (by omega), if_pos ⟨hw, halign, hb⟩]

theorem Reg.ofOffset_some {a : Nat} {r : Reg} (h : Reg.ofOffset a = some r) : r.offset = a := by
  simpa using List.find?_some h

theorem Reg.offset_le (r : Reg) : r.offset ≤ 0x070 := by
  cases r <;> decide

/-- An access that is not legal is erroneous (20_memory.md R66 to R68). -/
theorem busTarget_erroneous {n width : Nat} {addr : BitVec 17} (h : ¬legalAccess n addr width) :
    busTarget n addr width = .erroneous := by
  unfold busTarget
  simp only
  split_ifs with hreg halign hbuf
  · split
    · next r hr =>
      have hoff := Reg.ofOffset_some hr
      have hle := Reg.offset_le r
      exact absurd (.inl ⟨halign.1, halign.2, by omega⟩) h
    · rfl
  · rfl
  · exact absurd (.inr ⟨by omega, hbuf.1, hbuf.2.1, by omega⟩) h
  · rfl

/-- A legal access of the buffer, at its byte `a` (20_memory.md R68, R69). -/
structure BufferAccess (s : State) (a width : Nat) : Prop where
  legal : s.params.legal = true
  size : width = 1 ∨ width = 2 ∨ width = 4
  aligned : a % width = 0
  inside : a + width ≤ s.params.bufSize

section

variable {s : State} {a width : Nat} (h : BufferAccess s a width)
include h

theorem BufferAccess.busTarget :
    busTarget s.params.bufSize (BitVec.ofNat 17 (0x10000 + a)) width = .buffer a :=
  busTarget_bufferAddress (Params.bufSize_le h.legal) h.size h.aligned h.inside

/-- A read of the buffer is little-endian (20_memory.md R69). -/
theorem BufferAccess.step_read (rest : List HostOp) :
    step { s with host := .read (BitVec.ofNat 17 (0x10000 + a)) width :: rest } =
      .next { s with
        host := rest
        hostReply := some
          (BitVec.ofNat 32 ((List.range width).map fun i => (s.bufByte (a + i)).toNat * 2 ^ (8 * i)).sum) } := by
  simp only [step, hostOp, State.hostRead, h.busTarget, State.leValue_bytes_eq_sum]
  rfl

theorem BufferAccess.step_write (rest : List HostOp) (v : Word) :
    step { s with host := .write (BitVec.ofNat 17 (0x10000 + a)) width v :: rest } =
      .next (({ s with host := rest } : State).setBytes a (leBytes width v.toNat)) := by
  simp only [step, hostOp, hostWrite, h.busTarget]

end

/-- A run of bytes written little-endian (20_memory.md R69). -/
theorem State.bufByte_setBytes_leBytes (s : State) (a n v x : Nat) :
    (s.setBytes a (leBytes n v)).bufByte x =
      if a ≤ x ∧ x < a + n then BitVec.ofNat 8 (v / 2 ^ (8 * (x - a))) else s.bufByte x := by
  rw [State.bufByte_setBytes, leBytes_length]
  split_ifs with hx
  · exact leBytes_getD v (by omega)
  · rfl

/-- The same big-endian (20_memory.md R64). -/
theorem State.bufByte_memWrite (s : State) (a n v x : Nat) :
    (s.memWrite a n v).bufByte x =
      if a ≤ x ∧ x < a + n then BitVec.ofNat 8 (v / 2 ^ (8 * (n - 1 - (x - a)))) else s.bufByte x := by
  rw [State.memWrite, State.bufByte_setBytes, beBytes_length]
  split_ifs with hx
  · exact beBytes_getD v (by omega)
  · rfl

/-- A write of one byte. -/
theorem BufferAccess.step_writeByte {s : State} {a : Nat} (h : BufferAccess s a 1) (rest : List HostOp) (v : Word) :
    step { s with host := .write (BitVec.ofNat 17 (0x10000 + a)) 1 v :: rest } =
      .next (({ s with host := rest } : State).setByte a (v.setWidth 8)) := by
  rw [h.step_write, ← BitVec.ofNat_toNat]
  rfl

/-! ## A byte written under the BR cursor (20_memory.md R77) -/

theorem brRest_setByte_below {s : State} {a : Nat} (h : a < s.brBase.toNat + s.brIdx.toNat) (b : Byte) :
    brRest (s.setByte a b) = brRest s := by
  refine List.map_congr_left fun i _ => ?_
  rw [State.bufByte_setByte, if_neg (by simp; omega)]
  rfl

theorem brRest_setByte_ahead (s : State) (k : Nat) (b : Byte) :
    brRest (s.setByte (s.brBase.toNat + s.brIdx.toNat + k) b) = (brRest s).set k b := by
  refine List.ext_getElem (by simp [brRest]) fun i _ _ => ?_
  simp only [brRest, List.getElem_map, List.getElem_range, List.getElem_set, State.bufByte_setByte, State.setByte_brBase,
    State.setByte_brIdx, Nat.add_left_cancel_iff, eq_comm]

/-- A byte written is the only one that differs. -/
theorem agreeOn_setByte (s : State) (a : Nat) (b : Byte) : AgreeOn (· ≠ a) s (s.setByte a b) where
  besides := rfl
  bufByte := fun x hx => by rw [State.bufByte_setByte, if_neg hx]

end Sys2Proof.Machine

namespace Sys2Proof.Proofs

open Sys2Proof.Machine Sys2Proof.Claims

/-- Settles O21. -/
theorem bigEndianReadsAndWrites : Obligations.BigEndianReadsAndWrites :=
  ⟨State.memRead_eq_sum, State.bufByte_memWrite, View.u16_eq, View.u32_eq⟩

/-- Settles O9. -/
theorem bufferAccessLittleEndian : Obligations.BufferAccessLittleEndian := by
  refine ⟨fun s rest a width hp hw ha hb => ?_, rfl, rfl, rfl, rfl⟩
  have h : BufferAccess s a width := ⟨hp, hw, ha, hb⟩
  exact ⟨h.step_read rest, fun v =>
    ⟨_, h.step_write rest v, State.setBytes_eq _ a _, State.bufByte_setBytes_leBytes _ a width v.toNat⟩⟩

/-- Settles O11: the bus answers such an access as erroneous. -/
theorem erroneousAccessSetsBuserr : Obligations.ErroneousAccessSetsBuserr := by
  intro s rest addr width h
  have herr := busTarget_erroneous h
  refine ⟨?_, fun v => ?_⟩
  · simp only [step, hostOp, State.hostRead, herr]
    rfl
  · simp only [step, hostOp, hostWrite, herr]
    rfl

/-- Settles O29: the write changes one byte. Below BR_IDX no BR read may read it; at or above, the bytes to come list it. -/
theorem brCursorReadsLive : Obligations.BrCursorReadsLive := by
  intro s rest a v hp ha
  have h : BufferAccess s a 1 := ⟨hp, .inl rfl, Nat.mod_one a, ha⟩
  refine ⟨_, h.step_writeByte rest v, fun hbelow => ⟨brRest_setByte_below hbelow _, fun i hi t' s' ht hs => ?_⟩, ?_⟩
  · have hread : ∀ x, mayRead { s with host := rest } i x → x ≠ a := by
      intro x hx
      rw [mayRead, if_pos hi] at hx
      exact Nat.ne_of_gt (hbelow.trans_le hx.1)
    exact ((agreeOn_setByte _ a _).exec hread hs ht).besides.symm
  · rintro k rfl -
    exact brRest_setByte_ahead { s with host := rest } k _

end Sys2Proof.Proofs
end

section
/-! The bytes each command may write (20_memory.md R61), and the packet that the timestamp scan of a view finds, in the words
of the claims: fields as arithmetic on view bytes (43_ts_pes.md R150, R154, R162). -/

namespace Sys2Proof.Machine

open Sys2Proof.Claims

/-! ## View bytes and their bits -/

theorem State.inputView_get_toNat (s : State) (i : Nat) : (s.inputView.get i).toNat = byteAt s i := by
  rw [State.inputView, State.view_get, byteAt]
  split_ifs <;> rfl

theorem byte_getLsbD (b : Byte) (i : Nat) : b.getLsbD i = decide (b.toNat / 2 ^ i % 2 = 1) := by
  rw [BitVec.getLsbD, Nat.testBit_eq_decide_div_mod_eq]

/-- Byte `i` of packet `k` (43_ts_pes.md R162): past the clipped packet both sides are 0. -/
theorem packetAt_get (V : View) (k : Nat) {i : Nat} (hi : i < 188) : (packetAt V k).get i = V.get (k * 188 + i) := by
  rw [packetAt, View.sub_get]
  split_ifs with h
  · rfl
  · rw [View.get_of_len_le (by omega)]

@[simp] theorem packetAt_len (V : View) (k : Nat) : (packetAt V k).len = min 188 (V.len - k * 188) := View.sub_len _ _ _

@[simp] theorem pesOf_len (P : View) : (pesOf P).len = P.len - (tsFields P).off := View.sub_len _ _ _

theorem pesOf_get (P : View) {i : Nat} (hi : i < (pesOf P).len) : (pesOf P).get i = P.get ((tsFields P).off + i) := by
  rw [pesOf_len] at hi
  rw [pesOf, View.sub_get, if_pos hi]

theorem stampPos_eq (sel : TsSel) : stampPos sel = sel.pos := by
  cases sel <;> rfl

/-! ## The fields of packet `k` of the input view -/

section

variable (s : State) (k : Nat)

theorem packetAt_inputView_get {i : Nat} (hi : i < 188) :
    ((packetAt s.inputView k).get i).toNat = byteAt s (k * 188 + i) := by
  rw [packetAt_get _ _ hi, State.inputView_get_toNat]

theorem tsFields_pusi : (tsFields (packetAt s.inputView k)).pusi = pusiAt s (k * 188) := by
  simp only [tsFields, byte_getLsbD, packetAt_inputView_get s k (by omega : 1 < 188), pusiAt, Nat.reducePow]

theorem tsFields_payload : (tsFields (packetAt s.inputView k)).payload = payloadAt s (k * 188) := by
  simp only [tsFields, byte_getLsbD, packetAt_inputView_get s k (by omega : 3 < 188), payloadAt, Nat.reducePow]

theorem tsFields_adapt : (tsFields (packetAt s.inputView k)).adapt = adaptAt s (k * 188) := by
  simp only [tsFields, byte_getLsbD, packetAt_inputView_get s k (by omega : 3 < 188), adaptAt, Nat.reducePow]

theorem tsFields_off : (tsFields (packetAt s.inputView k)).off = offAt s (k * 188) := by
  have hoff : ∀ P : View, (tsFields P).off = if (tsFields P).adapt then min (5 + (P.get 4).toNat) 188 else 4 := fun _ => rfl
  rw [hoff, tsFields_adapt, packetAt_inputView_get s k (by omega), offAt]

end

/-- The payload length is 0 exactly where there is no payload or it starts at the packet's end (43_ts_pes.md R150). -/
theorem tsFields_plen_pos (P : View) : 0 < (tsFields P).plen ↔ (tsFields P).payload = true ∧ (tsFields P).off < 188 := by
  have hplen : (tsFields P).plen = if (tsFields P).payload then 188 - (tsFields P).off else 0 := rfl
  rw [hplen]
  split_ifs with h
  · simp only [h, true_and]
    omega
  · simp [h]

/-- A PES header whose bytes are those of the input view from `b` on has the timestamp the claims say (43_ts_pes.md R154). -/
theorem hasTs_iff {Q : View} {s : State} {b : Nat} (hget : ∀ i < Q.len, (Q.get i).toNat = byteAt s (b + i)) (sel : TsSel) :
    hasTs Q sel = true ↔ hasStamp s sel b Q.len := by
  by_cases hlen : 14 ≤ Q.len
  · cases sel <;>
      simp only [hasTs, hasStamp, byte_getLsbD, hget 7 (by omega), hget 8 (by omega), Bool.and_eq_true, decide_eq_true_eq,
        and_assoc, Nat.reducePow]
  · cases sel <;> simp only [hasTs, hasStamp, Bool.and_eq_true, decide_eq_true_eq] <;> omega

/-- Packet `k` carries the timestamp (43_ts_pes.md R162). -/
theorem carrier_iff (s : State) (sel : TsSel) (k : Nat) :
    carrier s sel k ↔ k * 188 < s.len.toNat ∧ carriesTs (packetAt s.inputView k) sel = true := by
  have hpes : ∀ i < (pesOf (packetAt s.inputView k)).len,
      ((pesOf (packetAt s.inputView k)).get i).toNat = byteAt s (k * 188 + offAt s (k * 188) + i) := by
    intro i hi
    rw [pesOf_get _ hi, tsFields_off, packetAt_inputView_get, Nat.add_assoc]
    rw [pesOf_len, tsFields_off, packetAt_len] at hi
    omega
  have hts := hasTs_iff hpes sel
  rw [pesOf_len, packetAt_len, State.inputView_len, tsFields_off] at hts
  simp only [carrier, carriesTs, Bool.and_eq_true, decide_eq_true_eq, gt_iff_lt, tsFields_plen_pos, tsFields_pusi,
    tsFields_payload, tsFields_off, hts]
  tauto

/-! ## The scan finds the first carrier -/

theorem scanTsFrom_first {V : View} {sel : TsSel} {fuel k n : Nat} {Q : View} (h : scanTsFrom V sel fuel k = some (n, Q)) :
    carriesTs (packetAt V n) sel = true ∧ ∀ j, k ≤ j → j < n → carriesTs (packetAt V j) sel = false := by
  induction fuel generalizing k with
  | zero => cases h
  | succ fuel ih =>
    unfold scanTsFrom at h
    split_ifs at h with hk hc
    · cases h
      exact ⟨hc, fun j hj hj' => by omega⟩
    · obtain ⟨hn, hfirst⟩ := ih h
      refine ⟨hn, fun j hj hj' => ?_⟩
      rcases Nat.eq_or_lt_of_le hj with rfl | hlt
      · simpa using hc
      · exact hfirst j hlt hj'

/-- What the scan of the input view finds is the first packet that carries the timestamp, and its PES header. -/
theorem scanTs_firstCarrier {s : State} {sel : TsSel} {n : Nat} {Q : View} (h : scanTs s.inputView sel = some (n, Q)) :
    firstCarrier s sel n ∧ Q.base = s.addr.toNat + (n * 188 + offAt s (n * 188)) := by
  obtain ⟨hn, hfirst⟩ := scanTsFrom_first h
  obtain ⟨hlen, rfl, -⟩ := scanTsFrom_some h
  rw [State.inputView_len] at hlen
  refine ⟨⟨(carrier_iff s sel n).mpr ⟨hlen, hn⟩, fun j hj hc => ?_⟩, ?_⟩
  · rw [carrier_iff, hfirst j (Nat.zero_le j) hj] at hc
    exact Bool.false_ne_true hc.2
  · rw [pesOf, View.sub_base, packetAt, View.sub_base, State.inputView_base, ← packetAt, tsFields_off, Nat.add_assoc]

/-! ## The bytes a command may have changed -/

theorem cases_of_mem_bufferWriters {i : Instr} (h : i ∈ bufferWriters) :
    i = .crcAppend ∨ i = .tsPcrSet ∨ (∃ sel, i = pesSet sel) ∨ ∃ sel, i = tsSet sel := by
  fin_cases h
  · exact .inl rfl
  · exact .inr (.inl rfl)
  · exact .inr (.inr (.inl ⟨.pts, rfl⟩))
  · exact .inr (.inr (.inl ⟨.dts, rfl⟩))
  · exact .inr (.inr (.inr ⟨.pts, rfl⟩))
  · exact .inr (.inr (.inr ⟨.dts, rfl⟩))

theorem ruleOf_pesSet (sel : TsSel) : ruleOf (pesSet sel) = pesSetTsRule sel := by
  cases sel <;> rfl

theorem ruleOf_tsSet (sel : TsSel) : ruleOf (tsSet sel) = tsSetTsRule sel := by
  cases sel <;> rfl

theorem State.setBytes_changed {s : State} {a x : Nat} {bs : List Byte} (h : (s.setBytes a bs).bufByte x ≠ s.bufByte x) :
    a ≤ x ∧ x < a + bs.length := by
  by_contra hx
  exact h (by rw [State.bufByte_setBytes, if_neg hx])

theorem crcAppendRule_changed {s t : State} {w : Word} {a : Nat} (h : crcAppendRule (s.beginCommand w) = .ok t)
    (hne : t.bufByte a ≠ s.bufByte a) :
    s.viewEnd ≤ a ∧ a < s.viewEnd + 4 := by
  obtain ⟨-, rfl⟩ := withViewAndTail_ok h
  exact State.setBytes_changed hne

theorem tsPcrSetRule_changed {s t : State} {w : Word} {a : Nat} (h : tsPcrSetRule (s.beginCommand w) = .ok t)
    (hne : t.bufByte a ≠ s.bufByte a) :
    12 ≤ s.len.toNat ∧ s.addr.toNat + 6 ≤ a ∧ a < s.addr.toNat + 12 := by
  obtain ⟨-, rfl⟩ := withView_ok h
  split_ifs at hne with hp
  · simp only [pcrPresent, Bool.and_eq_true, decide_eq_true_eq, State.beginCommand_inputView, State.inputView_len] at hp
    exact ⟨hp.2, State.setBytes_changed hne⟩
  · exact absurd rfl hne

theorem pesSetTsRule_changed {s t : State} {w : Word} {sel : TsSel} {a : Nat} (h : pesSetTsRule sel (s.beginCommand w) = .ok t)
    (hne : t.bufByte a ≠ s.bufByte a) :
    stampPos sel + 5 ≤ s.len.toNat ∧ s.addr.toNat + stampPos sel ≤ a ∧ a < s.addr.toNat + stampPos sel + 5 := by
  obtain ⟨-, rfl⟩ := withView_ok h
  rw [stampPos_eq]
  split_ifs at hne with hp
  · have hlen := hasTs_len hp
    rw [State.beginCommand_inputView, State.inputView_len] at hlen
    exact ⟨hlen, State.setBytes_changed hne⟩
  · exact absurd rfl hne

theorem tsSetTsRule_changed {s t : State} {w : Word} {sel : TsSel} {a : Nat} (h : tsSetTsRule sel (s.beginCommand w) = .ok t)
    (hne : t.bufByte a ≠ s.bufByte a) :
    ∃ k, firstCarrier s sel k ∧ k * 188 + offAt s (k * 188) + stampPos sel + 5 ≤ s.len.toNat ∧
      s.addr.toNat + (k * 188 + offAt s (k * 188) + stampPos sel) ≤ a ∧
      a < s.addr.toNat + (k * 188 + offAt s (k * 188) + stampPos sel) + 5 := by
  obtain ⟨-, rfl⟩ := withView_ok h
  split at hne
  · exact absurd rfl hne
  · next k Q hscan =>
    rw [State.beginCommand_inputView] at hscan
    have hbound := scanTs_bound hscan
    obtain ⟨hfirst, hbase⟩ := scanTs_firstCarrier hscan
    have hx : Q.base + sel.pos ≤ a ∧ a < Q.base + sel.pos + 5 := State.setBytes_changed hne
    rw [hbase, State.inputView_base, State.inputView_len] at hbound
    rw [hbase] at hx
    refine ⟨k, hfirst, ?_⟩
    rw [stampPos_eq]
    omega

/-- The other commands write no buffer byte (20_memory.md R61). -/
theorem ruleOf_bufByte {i : Instr} {s t : State} (hi : i ∉ bufferWriters)
    (h : ruleOf i (s.beginCommand (encode i)) = .ok t) (a : Nat) : t.bufByte a = s.bufByte a := by
  by_cases hr : i = .softReset
  · subst hr
    cases h
    rfl
  · have hf := (ruleOf_frame hr h).1
    have hmem : t.mem = s.mem := (congrArg State.mem hf).trans (if_neg hi)
    have hcycle : t.powerCycle = s.powerCycle := (congrArg State.powerCycle hf :)
    rw [State.bufByte, State.bufByte, hmem, hcycle]

end Sys2Proof.Machine

namespace Sys2Proof.Proofs

open Sys2Proof.Machine Sys2Proof.Claims

/-- Settles O19: an error writes nothing; without one, each writer by the run of bytes its rule names. -/
theorem bufferWriters : Obligations.BufferWriters := by
  intro i s t a h hne
  rw [exec_eq_command] at h
  rcases command_cases h with hok | ⟨e, -, rfl⟩
  · by_cases hw : i ∈ Machine.bufferWriters
    · rcases cases_of_mem_bufferWriters hw with rfl | rfl | ⟨sel, rfl⟩ | ⟨sel, rfl⟩
      · exact ⟨.inl ⟨rfl, crcAppendRule_changed hok hne⟩, fun hi => absurd rfl hi⟩
      · obtain ⟨hlen, hlo, hhi⟩ := tsPcrSetRule_changed hok hne
        exact ⟨.inr (.inl ⟨rfl, hlo, hhi⟩), fun _ => by omega⟩
      · rw [ruleOf_pesSet] at hok
        obtain ⟨hlen, hlo, hhi⟩ := pesSetTsRule_changed hok hne
        exact ⟨.inr (.inr (.inl ⟨sel, rfl, hlo, hhi⟩)), fun _ => by omega⟩
      · rw [ruleOf_tsSet] at hok
        obtain ⟨k, hk, hlen, hlo, hhi⟩ := tsSetTsRule_changed hok hne
        exact ⟨.inr (.inr (.inr ⟨sel, k, rfl, hk, hlo, hhi⟩)), fun _ => by omega⟩
    · exact absurd (ruleOf_bufByte hw hok a) hne
  · exact absurd rfl hne

end Sys2Proof.Proofs
end

section
/-! Command words (30_encoding.md R80 to R84): which opcodes and flags the decoder takes, the one word of each command, and the
four checks of R82, each against the step of R84 that makes it. -/

namespace Sys2Proof

open Sys2Proof.Machine Sys2Proof.Claims

/-! ## The word of a command -/

/-- The opcode map of R83 and the opcode bytes are inverse. -/
theorem Opcode.ofCode_eq_some_iff {c : BitVec 8} {o : Opcode} : Opcode.ofCode c = some o ↔ c = o.code := by
  refine ⟨fun h => ?_, ?_⟩
  · unfold Opcode.ofCode at h
    split at h <;> cases h <;> exact BitVec.eq_of_toNat_eq ‹_›
  · rintro rfl
    cases o <;> rfl

/-- The FLAGS words whose undefined bits are 0, where R81 defines one bit. -/
theorem eq_of_oneFlag : ∀ {fl : BitVec 4}, fl &&& ~~~0b0001 = 0 → fl = 0 ∨ fl = 1 := by decide

/-- The same for KIND's two bits. -/
theorem eq_of_kindFlags : ∀ {fl : BitVec 4}, fl &&& ~~~0b0011 = 0 → fl = 0 ∨ fl = 1 ∨ fl = 2 ∨ fl = 3 := by decide

/-- The same where R81 defines no bit. -/
theorem eq_of_noFlag : ∀ {fl : BitVec 4}, fl &&& ~~~0b0000 = 0 → fl = 0 := by decide

/-- An opcode with defined flags names the command of that opcode and those flags, and no other (R81). -/
theorem Opcode.withFlags_eq_some_iff {o : Opcode} {fl : BitVec 4} {i : Instr} :
    (fl &&& ~~~o.allowedFlags = 0 ∧ o.withFlags fl = some i) ↔ o = i.opcode ∧ fl = i.flags := by
  refine ⟨fun ⟨hallowed, hname⟩ => ?_, ?_⟩
  · cases o
    case brInit | crcCheck | pesGetTs | pesSetTs | tsFindTs | tsSetTs =>
      rcases eq_of_oneFlag hallowed with rfl | rfl <;> cases hname <;> exact ⟨rfl, rfl⟩
    case fdConfig =>
      rcases eq_of_kindFlags hallowed with rfl | rfl | rfl | rfl <;> cases hname <;> exact ⟨rfl, rfl⟩
    all_goals
      cases eq_of_noFlag hallowed
      cases hname
      exact ⟨rfl, rfl⟩
  · rintro ⟨rfl, rfl⟩
    cases i <;> exact ⟨rfl, rfl⟩

/-- The decoder's three checks and the name it gives (R84). -/
theorem decode_eq_ok_iff_checks {w : Word} {i : Instr} :
    decode w = .ok i ↔ w.extractLsb' 12 20 = 0 ∧ ∃ o, Opcode.ofCode (w.extractLsb' 0 8) = some o ∧
      w.extractLsb' 8 4 &&& ~~~o.allowedFlags = 0 ∧ o.withFlags (w.extractLsb' 8 4) = some i := by
  unfold decode
  simp only
  split_ifs with hrsvd
  · exact iff_of_false nofun fun h => hrsvd h.1
  · rw [not_not] at hrsvd
    cases Opcode.ofCode (w.extractLsb' 0 8) with
    | none => simp
    | some o =>
      simp only [Option.some.injEq, exists_eq_left', hrsvd, true_and]
      split_ifs with hfl
      · exact iff_of_false nofun fun h => hfl h.1
      · rw [not_not] at hfl
        cases o.withFlags (w.extractLsb' 8 4) <;> simp [hfl]

/-- The word of a command is the one with its three fields (R80). -/
theorem eq_encode_iff {w : Word} {i : Instr} :
    w = encode i ↔ w.extractLsb' 12 20 = 0 ∧ w.extractLsb' 0 8 = i.opcode.code ∧ w.extractLsb' 8 4 = i.flags := by
  refine ⟨?_, fun ⟨hrsvd, hop, hfl⟩ => ?_⟩
  · rintro rfl
    cases i <;> exact ⟨rfl, rfl, rfl⟩
  · have hw : w = w.extractLsb' 12 20 ++ w.extractLsb' 8 4 ++ w.extractLsb' 0 8 := by
      rw [BitVec.extractLsb'_append_extractLsb'_eq_extractLsb' (by rfl : 12 = 8 + 4),
        BitVec.extractLsb'_append_extractLsb'_eq_extractLsb' (by rfl : 8 = 0 + 8)]
      exact BitVec.extractLsb'_eq_self.symm
    rw [hw, hrsvd, hop, hfl]
    rfl

/-- The decoder reads a command from its own word and from no other. -/
theorem decode_eq_ok_iff {w : Word} {i : Instr} : decode w = .ok i ↔ w = encode i := by
  rw [decode_eq_ok_iff_checks, eq_encode_iff]
  simp only [Opcode.withFlags_eq_some_iff, Opcode.ofCode_eq_some_iff]
  exact and_congr_right fun _ => ⟨fun ⟨o, hop, ho, hfl⟩ => ⟨ho ▸ hop, hfl⟩, fun ⟨hop, hfl⟩ => ⟨_, hop, rfl, hfl⟩⟩

@[simp] theorem decode_encode (i : Instr) : decode (encode i) = .ok i := decode_eq_ok_iff.mpr rfl

/-! ## R83's list -/

/-- R83's list gives every command its word, and nothing else. -/
theorem mem_legalWordTable_iff {n : Nat} {i : Instr} : (n, i) ∈ legalWordTable ↔ n = (encode i).toNat := by
  have hall : ∀ p ∈ legalWordTable, p.1 = (encode p.2).toNat := by decide
  refine ⟨hall (n, i), ?_⟩
  rintro rfl
  cases i <;> decide

/-! ## R82's checks, one by one -/

theorem rsvdClear_ofWord {w : Word} : (CommandFields.ofWord w).rsvdClear = true ↔ w.extractLsb' 12 20 = 0 := beq_iff_eq

theorem opcodeAssigned_iff {f : CommandFields} : f.opcodeAssigned = true ↔ ∃ o : Opcode, f.opcode = o.code := by
  have hall : ∀ c ∈ assignedOpcodes, (Opcode.ofCode c).isSome := by decide
  simp only [CommandFields.opcodeAssigned, List.contains_iff_mem, ← Opcode.ofCode_eq_some_iff, ← Option.isSome_iff_exists]
  refine ⟨hall _, fun h => ?_⟩
  obtain ⟨o, ho⟩ := Option.isSome_iff_exists.mp h
  rw [Opcode.ofCode_eq_some_iff.mp ho]
  cases o <;> decide

theorem flagsDefined_iff {f : CommandFields} {o : Opcode} (h : f.opcode = o.code) :
    f.flagsDefined = true ↔ f.flags &&& ~~~o.allowedFlags = 0 := by
  obtain ⟨op, fl, rsvd⟩ := f
  subst h
  cases o
  case brInit | crcCheck | pesGetTs | pesSetTs | tsFindTs | tsSetTs =>
    change (fl == 0 || fl == 1) = true ↔ fl &&& ~~~0b0001 = 0
    revert fl
    decide
  case fdConfig =>
    change (fl.getLsbD 3 == false && fl.getLsbD 2 == false) = true ↔ fl &&& ~~~0b0011 = 0
    revert fl
    decide
  all_goals
    change (fl == 0) = true ↔ fl &&& ~~~0b0000 = 0
    revert fl
    decide

/-- KIND = 3 is the one FLAGS value that names no command. -/
theorem kindLegal_iff {f : CommandFields} {o : Opcode} (h : f.opcode = o.code) :
    f.kindLegal = true ↔ ∃ i, o.withFlags f.flags = some i := by
  obtain ⟨op, fl, rsvd⟩ := f
  subst h
  rw [← Option.isSome_iff_exists]
  cases o
  case fdConfig =>
    change (!(fl.extractLsb' 0 2 == 3)) = true ↔ (Opcode.fdConfig.withFlags fl).isSome
    revert fl
    decide
  all_goals exact iff_of_true rfl rfl

/-- R82's four checks are those of R84's decoder. -/
theorem exists_decode_iff_wellFormed {w : Word} :
    (∃ i, decode w = .ok i) ↔ (CommandFields.ofWord w).wellFormed = true := by
  simp only [decode_eq_ok_iff_checks, CommandFields.wellFormed, Bool.and_eq_true, rsvdClear_ofWord, opcodeAssigned_iff]
  constructor
  · rintro ⟨i, hrsvd, o, hop, hfl, hname⟩
    rw [Opcode.ofCode_eq_some_iff] at hop
    exact ⟨⟨⟨hrsvd, o, hop⟩, (flagsDefined_iff hop).mpr hfl⟩, (kindLegal_iff hop).mpr ⟨i, hname⟩⟩
  · rintro ⟨⟨⟨hrsvd, o, hop⟩, hfl⟩, hkind⟩
    obtain ⟨i, hname⟩ := (kindLegal_iff hop).mp hkind
    exact ⟨i, hrsvd, o, Opcode.ofCode_eq_some_iff.mpr hop, (flagsDefined_iff hop).mp hfl, hname⟩

/-- A word that names no command ends with ILLEGAL (R82). -/
theorem runCommand_illegal {w : Word} (h : ¬∃ i, decode w = .ok i) (s : State) :
    runCommand w s = .next (failed s w .illegal) := by
  unfold runCommand
  split
  · next i hi => exact absurd ⟨i, hi⟩ h
  · rfl

end Sys2Proof

namespace Sys2Proof.Proofs

open Sys2Proof.Machine Sys2Proof.Claims

/-- Settles O3: the decoder reads a command from its own word and from no other. -/
theorem decodeEncodeAgree : Obligations.DecodeEncodeAgree :=
  ⟨decode_encode, fun _ _ h => (decode_eq_ok_iff.mp h).symm⟩

/-- Settles O1: R83's list pairs each command with its word, which is the one word the decoder reads it from. -/
theorem legalWordsInFull : Obligations.LegalWordsInFull := by
  refine ⟨fun w i => ?_, rfl, by decide⟩
  rw [decode_eq_ok_iff, mem_legalWordTable_iff, BitVec.toNat_inj]

/-- Settles O2. -/
theorem legalIffFourChecks : Obligations.LegalIffFourChecks := by
  refine fun w => ⟨exists_decode_iff_wellFormed, fun hbad s => runCommand_illegal ?_ s⟩
  rw [exists_decode_iff_wellFormed, hbad]
  exact Bool.false_ne_true

/-- Settles O4: the nine words are those of their commands; each of the other four fails the check named. -/
theorem sampleWordsDecode : Obligations.SampleWordsDecode :=
  ⟨decode_encode .clrStatus, decode_encode .brInitRaw, decode_encode .brUe, decode_encode .crcCheckAcc,
    decode_encode .sectCheck, decode_encode .tsPcrSet, decode_encode .tsSetTsDts, decode_encode .t33Diff,
    decode_encode .fdConfigH264, rfl, rfl, rfl, rfl⟩

end Sys2Proof.Proofs
end

section
/-! The lines of a host program (30_encoding.md R88), access by access: what one step of each kind of access does, and what the
runs of byte accesses of WRB and RDB do. -/

namespace Sys2Proof.Machine

open Sys2Proof.Claims

/-! ## Runs -/

theorem run_succ {s t : State} (h : step s = .next t) (n : Nat) : run (n + 1) s = run n t := by
  simp only [run, h]

theorem run_one (s : State) : run 1 s = step s := by
  rw [run]
  cases step s <;> rfl

/-! ## Accesses of registers -/

/-- What a write stores does not depend on the accesses to come. -/
theorem State.writeReg_withHost (s : State) (ops : List HostOp) (r : Reg) (v : Word) :
    ({ s with host := ops } : State).writeReg r v = { s.writeReg r v with host := ops } := by
  cases r <;> rfl

theorem step_writeRegOp {r : Reg} (h : r ≠ .cmd) (s : State) (v : Word) (rest : List HostOp) :
    step { s with host := writeRegOp r v :: rest } = .next { s.writeReg r v with host := rest } := by
  rw [← State.writeReg_withHost]
  exact hostWrite_register h v _

theorem run_writeRegOp {r : Reg} (h : r ≠ .cmd) (s : State) (v : Word) (rest : List HostOp) (n : Nat) :
    run (n + 1) { s with host := writeRegOp r v :: rest } = run n { s.writeReg r v with host := rest } :=
  run_succ (step_writeRegOp h s v rest) n

theorem step_cmdOp (s : State) (i : Instr) (rest : List HostOp) :
    step { s with host := cmdOp i :: rest } = exec i { s with host := rest } :=
  (hostWrite_cmd _ _).trans (runCommand_ok (decode_encode i) _)

theorem step_readReg (s : State) (r : Reg) (rest : List HostOp) :
    step { s with host := .read r.address 4 :: rest } = .next { s with host := rest, hostReply := some (s.readReg r) } := by
  rw [← State.readReg_withHost s rest r]
  exact congrArg Host.Outcome.next (State.hostRead_register _ r)

/-- VIEW sets ADDR, then LEN. -/
theorem run_viewOps (s : State) (a l : Word) (ops : List HostOp) (n : Nat) :
    run (n + 2) { s with host := viewOps a l ++ ops } = run n { s with addr := a, len := l, host := ops } :=
  (run_writeRegOp (by decide) s a _ (n + 1)).trans (run_writeRegOp (by decide) (s.writeReg .addr a) l ops n)

/-- The lines CRCV, SECT and PKT: a view, then a command. -/
theorem run_viewOps_cmdOp (s : State) (a l : Word) (i : Instr) (rest : List HostOp) :
    run 3 { s with host := viewOps a l ++ [cmdOp i] ++ rest } = exec i { s with addr := a, len := l, host := rest } := by
  rw [List.append_assoc, run_viewOps, run_one]
  exact step_cmdOp { s with addr := a, len := l } i rest

/-- The two halves of a 64-bit value, written low half first over any old value, make it whole (20_memory.md R69). -/
theorem write_both_halves (v : DWord) (x : Word) :
    v.extractLsb' 32 32 ++ (x ++ v.extractLsb' 0 32).extractLsb' 0 32 = v := by
  rw [BitVec.extractLsb'_append_eq_right, BitVec.extractLsb'_append_extractLsb'_eq_extractLsb' (by rfl : 32 = 0 + 32)]
  exact BitVec.extractLsb'_eq_self

theorem writeReg_opaHi_opaLo (s : State) (v : DWord) :
    (s.writeReg .opaLo (v.extractLsb' 0 32)).writeReg .opaHi (v.extractLsb' 32 32) = { s with opa := v } := by
  simp only [State.writeReg, write_both_halves]

theorem writeReg_opbHi_opbLo (s : State) (v : DWord) :
    (s.writeReg .opbLo (v.extractLsb' 0 32)).writeReg .opbHi (v.extractLsb' 32 32) = { s with opb := v } := by
  simp only [State.writeReg, write_both_halves]

/-- SET64 sets its operand, whichever it is: the low half, then the high half. -/
theorem run_set64 (s : State) (x : Operand64) (v : DWord) (rest : List HostOp) :
    run 2 { s with host := (HostLine.set64 x v).expand ++ rest } =
      .next (match x with
        | .opa => { s with opa := v, host := rest }
        | .opb => { s with opb := v, host := rest }) := by
  cases x
  case opa =>
    refine (run_writeRegOp (by decide) s _ _ 1).trans ((run_writeRegOp (by decide) (s.writeReg .opaLo _) _ rest 0).trans ?_)
    rw [writeReg_opaHi_opaLo, run]
  case opb =>
    refine (run_writeRegOp (by decide) s _ _ 1).trans ((run_writeRegOp (by decide) (s.writeReg .opbLo _) _ rest 0).trans ?_)
    rw [writeReg_opbHi_opbLo, run]

/-! ## Runs of byte accesses -/

theorem BufferAccess.ofByte {s : State} (hp : s.params.legal = true) {a : Nat} (ha : a < s.params.bufSize) :
    BufferAccess s a 1 :=
  ⟨hp, .inl rfl, Nat.mod_one a, ha⟩

/-- WRB: one byte after another. -/
theorem run_writeByteOps {s : State} {a : Nat} {bs : List Byte} (hp : s.params.legal = true)
    (hb : a + bs.length ≤ s.params.bufSize) (rest : List HostOp) :
    run bs.length { s with host := writeByteOps a bs ++ rest } = .next (({ s with host := rest } : State).setBytes a bs) := by
  induction bs generalizing s a with
  | nil => rfl
  | cons b bs ih =>
    rw [List.length_cons] at hb
    have hstep : step { s with host := writeByteOps a (b :: bs) ++ rest } =
        .next { s.setByte a b with host := writeByteOps (a + 1) bs ++ rest } := by
      refine ((BufferAccess.ofByte hp (by omega)).step_writeByte _ (b.setWidth 32)).trans ?_
      rw [BitVec.setWidth_setWidth_of_le b (by decide), BitVec.setWidth_eq]
      rfl
    rw [List.length_cons, run_succ hstep, ih (s := s.setByte a b) hp (by simp; omega)]
    rfl

/-- RDB: one byte read. -/
theorem step_readByteOps {s : State} {a : Nat} (hp : s.params.legal = true) (ha : a < s.params.bufSize) (n : Nat)
    (rest : List HostOp) :
    step { s with host := readByteOps a (n + 1) ++ rest } =
      .next { s with host := readByteOps (a + 1) n ++ rest, hostReply := some (BitVec.ofNat 32 (s.bufByte a).toNat) } := by
  refine ((BufferAccess.ofByte hp ha).step_read _).trans ?_
  simp

/-- RDB: one byte after another; the reply is the last one read. -/
theorem run_readByteOps {s : State} {a n k : Nat} (hp : s.params.legal = true) (hn : a + n ≤ s.params.bufSize) (hk : k < n)
    (rest : List HostOp) :
    run (k + 1) { s with host := readByteOps a n ++ rest } =
      .next { s with
        host := readByteOps (a + k + 1) (n - k - 1) ++ rest
        hostReply := some (BitVec.ofNat 32 (s.bufByte (a + k)).toNat) } := by
  induction k generalizing s a n with
  | zero =>
    obtain ⟨m, rfl⟩ : ∃ m, n = m + 1 := ⟨n - 1, by omega⟩
    exact run_succ (step_readByteOps hp (by omega) m rest) 0
  | succ k ih =>
    obtain ⟨m, rfl⟩ : ∃ m, n = m + 1 := ⟨n - 1, by omega⟩
    have hrest := @ih { s with hostReply := some (BitVec.ofNat 32 (s.bufByte a).toNat) } (a + 1) m hp (by simp; omega)
      (by omega)
    rw [show a + 1 + k = a + (k + 1) by omega, show m - k - 1 = m + 1 - (k + 1) - 1 by omega] at hrest
    exact (run_succ (step_readByteOps hp (by omega) m rest) (k + 1)).trans hrest

end Sys2Proof.Machine

namespace Sys2Proof.Proofs

open Sys2Proof.Machine Sys2Proof.Claims

/-- Settles O5: each line runs its accesses one after another. -/
theorem hostLinesDoTheirExpansion : Obligations.HostLinesDoTheirExpansion := by
  intro s rest hp
  have hwrite : ∀ r v, r ≠ .cmd → run 1 { s with host := (HostLine.wr r v).expand ++ rest } =
      .next { s.writeReg r v with host := rest } :=
    fun r v hr => run_writeRegOp hr s v rest 0
  refine ⟨fun r v hr => ⟨_, hwrite r v ?_, ?_, fun r' hr' => ?_, ?_⟩, fun v => (run_one _).trans (hostWrite_cmd v _),
    fun r v hr hcmd => ?_, fun r => (run_one _).trans (step_readReg s r rest),
    fun a n k hn hk => run_readByteOps hp hn hk rest, fun _ => rfl, fun a l => run_viewOps s a l rest 0,
    fun v => run_set64 s .opa v rest, fun v => run_set64 s .opb v rest, fun i => (run_one _).trans (step_cmdOp s i rest),
    fun a l => run_viewOps_cmdOp s a l _ rest, fun a l => run_viewOps_cmdOp s a l _ rest,
    fun a l => run_viewOps_cmdOp s a l _ rest, fun a bs hb =>
      ⟨_, run_writeByteOps hp hb rest, State.setBytes_eq _ a bs, fun x => State.bufByte_setBytes _ a x bs⟩⟩
  · rintro rfl
    exact absurd hr (by decide)
  · rw [State.readReg_withHost, State.readReg_writeReg_same s v hr]
  · rw [State.readReg_withHost, State.readReg_writeReg_other s v hr']
  · obtain ⟨hsamples, hmem, -, -, -, hreply⟩ := State.writeReg_frame s r v
    exact ⟨hsamples, hmem, rfl, hreply⟩
  · rw [hwrite r v hcmd, State.writeReg_readOnly s v hr]

end Sys2Proof.Proofs
end

section
/-! Control (40_control.md R100 to R105, 60_exceptions.md R240 to R243): the error each command ends with, what SOFT_RESET,
NOP and CLR_STATUS leave, and that every host access is answered with a next state. -/

namespace Sys2Proof.Machine

open Sys2Proof.Claims

/-! ## The error of a rule

`errorIn` says how a rule ends. Each operand check has its own equation; the error of a command is then read off its rule. -/

/-- The error an outcome of a rule carries, none when the rule completed. -/
def errorIn : Except ErrCode State → Option ErrCode
  | .ok _ => none
  | .error e => some e

@[simp] theorem errorIn_ok (t : State) : errorIn (.ok t) = none := rfl

theorem errorIn_eq_some_iff {x : Except ErrCode State} {e : ErrCode} : errorIn x = some e ↔ x = .error e := by
  cases x <;> simp [errorIn]

theorem errorIn_eq_none_iff {x : Except ErrCode State} : errorIn x = none ↔ ∃ t, x = .ok t := by
  cases x <;> simp [errorIn]

@[simp] theorem errorIn_withView (s : State) (g : View → State) :
    errorIn (withView s g) = if s.params.bufSize < s.addr.toNat + s.len.toNat then some .range else none :=
  apply_ite errorIn _ _ _

@[simp] theorem errorIn_withViewAndTail (s : State) (g : View → State) :
    errorIn (withViewAndTail s g) = if s.params.bufSize < s.addr.toNat + s.len.toNat + 4 then some .range else none :=
  apply_ite errorIn _ _ _

@[simp] theorem errorIn_bitCountOperand (s : State) (g : Nat → State) :
    errorIn (bitCountOperand s g) = if 32 < s.opa.toNat then some .badOperand else none :=
  apply_ite errorIn _ _ _

@[simp] theorem errorIn_pidOperand (s : State) (g : BitVec 13 → State) :
    errorIn (pidOperand s g) = if 0x1FFF < s.opa.toNat then some .badOperand else none :=
  apply_ite errorIn _ _ _

@[simp] theorem errorIn_activeCursor (s : State) (x : Except ErrCode State) :
    errorIn (activeCursor s x) = if s.brState.active = false then some .notConfigured else errorIn x := by
  unfold activeCursor
  cases s.brState.active <;> rfl

@[simp] theorem errorIn_configuredDetector (s : State) (x : Except ErrCode State) :
    errorIn (configuredDetector s x) = if s.fdCfg.configured = false then some .notConfigured else errorIn x := by
  unfold configuredDetector
  cases s.fdCfg.configured <;> rfl

/-- The checks of a rule are the causes of 60_exceptions.md R240 for its command, in R241's order. -/
theorem errorIn_ruleOf (i : Instr) (s : State) : errorIn (ruleOf i s) = errorOf s (some i) := by
  cases i <;> simp only [ruleOf]
  case nop | clrStatus | softReset | crcInit | crcSeed | t33Diff | t33Add => rfl
  case brBit | brUe | brSe | brByte =>
    refine (errorIn_activeCursor s (.ok _)).trans ?_
    simp [errorOf, brReads, fdConfigs, viewCommands]
  case brBits | fdConfigAudio | fdConfigMpeg2 | fdConfigH264 | crcAppend | fdPacket =>
    simp [brBitsRule, fdConfigRule, crcAppendRule, fdPacketRule, errorOf, brReads, fdConfigs, viewCommands]
  all_goals
    refine (errorIn_withView s _).trans ?_
    simp [errorOf, brReads, fdConfigs, viewCommands]

/-! ## Which error a command ends with -/

/-- The cycle's start changes nothing the causes speak of (40_control.md R100). -/
@[simp] theorem errorOf_beginCommand (s : State) (w : Word) (d : Option Instr) :
    errorOf (s.beginCommand w) d = errorOf s d := rfl

/-- A command with a cause of an error ends with it and changes CMD and STATUS only (40_control.md R102). -/
theorem exec_failed {i : Instr} {s : State} {e : ErrCode} (h : errorOf s (some i) = some e) :
    exec i s = .next (failed s (encode i) e) := by
  rw [← errorOf_beginCommand s (encode i), ← errorIn_ruleOf, errorIn_eq_some_iff] at h
  rw [exec_eq_command, command_error h]
  rfl

/-- A command with no cause of an error completes its rule. -/
theorem exec_completed {i : Instr} {s : State} (h : errorOf s (some i) = none) :
    ∃ t, ruleOf i (s.beginCommand (encode i)) = .ok t ∧ exec i s = .next t := by
  rw [← errorOf_beginCommand s (encode i), ← errorIn_ruleOf, errorIn_eq_none_iff] at h
  obtain ⟨t, ht⟩ := h
  exact ⟨t, ht, (exec_eq_command i s).trans (command_ok ht)⟩

/-- A rule that completes has no error to report and sets no sticky bit (10_state.md R25). -/
theorem ruleOf_ok_status {i : Instr} {s t : State} (h : ruleOf i (s.beginCommand (encode i)) = .ok t) :
    t.status.err = .noError ∧ (t.status.stickyErr = true → s.status.stickyErr = true) := by
  by_cases hr : i = .softReset
  · subst hr
    cases h
    exact ⟨rfl, nofun⟩
  · obtain ⟨-, hst⟩ := ruleOf_frame hr h
    have hsticky : t.status.stickyErr = if i ∈ [.clrStatus, .softReset] then false else s.status.stickyErr :=
      congrArg Status.stickyErr hst
    refine ⟨congrArg Status.err hst, fun ht => ?_⟩
    split_ifs at hsticky with hi
    · simp [hsticky] at ht
    · rwa [hsticky] at ht

/-! ## SOFT_RESET -/

theorem exec_softReset (s : State) : exec .softReset s = .next (s.beginCommand (encode .softReset)).softReset := rfl

/-- SOFT_RESET leaves the registers of a unit just reset, CMD apart (40_control.md R105). -/
theorem State.softReset_readReg {r : Reg} (s : State) (h : r ≠ .cmd) :
    s.softReset.readReg r = (State.resetWith s.params).readReg r := by
  cases r
  case cmd => exact absurd rfl h
  all_goals rfl

/-- The buffer is kept: what was written and what was not (70_reset_and_hazards.md R261). -/
@[simp] theorem State.softReset_bufByte (s : State) (a : Nat) : s.softReset.bufByte a = s.bufByte a := rfl

/-! ## Every host access is answered -/

/-- `r` is a next state with the parameters of `s` and the host accesses still to come of `s`. -/
def Answers (s : State) (r : Result) : Prop := ∃ t, r = .next t ∧ t.params = s.params ∧ t.host = s.host

theorem exec_answers (i : Instr) (s : State) : Answers s (exec i s) := by
  obtain ⟨t, ht⟩ := command_next (encode i) (ruleOf i) s
  rw [← exec_eq_command] at ht
  obtain ⟨hparams, hhost, -⟩ := Proofs.registerWriters i s t ht
  exact ⟨t, ht, hparams, hhost⟩

theorem runCommand_answers (w : Word) (s : State) : Answers s (runCommand w s) := by
  unfold runCommand
  split
  · exact exec_answers _ s
  · exact ⟨_, rfl, rfl, rfl⟩

theorem State.hostRead_frame (s : State) (addr : BitVec 17) (width : Nat) :
    (s.hostRead addr width).params = s.params ∧ (s.hostRead addr width).host = s.host := by
  unfold State.hostRead
  split <;> exact ⟨rfl, rfl⟩

theorem hostWrite_answers (addr : BitVec 17) (width : Nat) (v : Word) (s : State) :
    Answers s (hostWrite addr width v s) := by
  unfold hostWrite
  split
  · exact runCommand_answers v s
  · next r _ _ =>
    obtain ⟨-, -, -, hparams, hhost, -⟩ := State.writeReg_frame s r v
    exact ⟨_, rfl, hparams, hhost⟩
  · exact ⟨_, rfl, State.setBytes_params s _ _, State.setBytes_host s _ _⟩
  · exact ⟨_, rfl, rfl, rfl⟩

theorem hostOp_answers (op : HostOp) (s : State) : Answers s (hostOp op s) := by
  cases op with
  | read addr width => exact ⟨_, rfl, State.hostRead_frame s addr width⟩
  | write addr width v => exact hostWrite_answers addr width v s
  | powerOn => exact ⟨_, rfl, rfl, rfl⟩

end Sys2Proof.Machine

namespace Sys2Proof.Proofs

open Sys2Proof.Machine Sys2Proof.Claims

/-- Settles O7: an idle step keeps the state; any other takes the next access off and answers it. -/
theorem everyStepAnswersNext : Obligations.EveryStepAnswersNext := by
  intro s
  unfold step
  split
  · next hidle => exact ⟨s, rfl, rfl, by rw [hidle]; rfl, fun _ => rfl⟩
  · next op rest hop =>
    obtain ⟨t, ht, hparams, hhost⟩ := hostOp_answers op { s with host := rest }
    refine ⟨t, ht, hparams, ?_, fun hidle => ?_⟩
    · rw [hhost, hop]
      rfl
    · cases hop.symm.trans hidle

/-- Settles O16: an illegal word ends with ILLEGAL; a legal one fails or completes as the checks of its rule say. -/
theorem errorsAndTheirPriority : Obligations.ErrorsAndTheirPriority := by
  intro s w
  unfold commandOf
  cases hw : decode w with
  | error c =>
    refine ⟨fun e he => ?_, nofun⟩
    obtain rfl : ErrCode.illegal = e := Option.some.inj he
    exact runCommand_illegal (by simp [hw]) s
  | ok i =>
    obtain rfl : w = encode i := decode_eq_ok_iff.mp hw
    rw [runCommand_ok hw]
    refine ⟨fun e he => exec_failed he, fun hnone => ?_⟩
    obtain ⟨t, hok, ht⟩ := exec_completed hnone
    obtain ⟨-, -, -, -, hcmd, -⟩ := registerWriters i s t ht
    exact ⟨t, ht, hcmd, ruleOf_ok_status hok⟩

/-- Settles O14: the registers are those of a unit just reset, which keeps CMD and the buffer. -/
theorem softResetKeepsCmdAndBuffer : Obligations.SoftResetKeepsCmdAndBuffer := by
  intro s
  refine ⟨_, exec_softReset s, rfl, fun r hr => ?_, rfl, fun a => ?_, rfl, rfl, rfl⟩
  · rw [State.softReset_readReg _ hr]
    exact State.resetWith_readReg s.params r
  · rw [State.softReset_bufByte, State.beginCommand_bufByte]

/-- Settles O15: both rules complete, NOP's with the cycle's start as it is, CLR_STATUS's with the sticky bits cleared. -/
theorem nopAndClrStatus : Obligations.NopAndClrStatus :=
  fun s => ⟨(exec_eq_command .nop s).trans (command_ok rfl), (exec_eq_command .clrStatus s).trans (command_ok rfl)⟩

end Sys2Proof.Proofs
end

section
/-! The bit reader (41_bitreader.md R112 to R118) over a list of bytes: when a list says what a source has still to give, each
read takes its bits off the front of the bits left, and past the end it takes zeros. Then the BR commands, whose source lists
the rest of the view. -/

namespace Sys2Proof.Machine

open Sys2Proof.Claims

/-! ## Zero-filled bits -/

theorem zeroFilled_succ (l : List Bool) (n : Nat) : zeroFilled l (n + 1) = l.headD false :: zeroFilled (l.drop 1) n := by
  simp [zeroFilled, List.range_succ_eq_map, List.getD_eq_getElem?_getD, List.headD_eq_head?_getD, List.head?_eq_getElem?,
    Function.comp_def]

theorem zeroFilled_congr {l l' : List Bool} (h : ∀ i, l.getD i false = l'.getD i false) (n : Nat) :
    zeroFilled l n = zeroFilled l' n :=
  List.map_congr_left fun i _ => h i

/-- How many zero bits come first in `l` continued with zeros, counted up to `n`. -/
def zerosAhead (l : List Bool) (n : Nat) : Nat := ((zeroFilled l n).takeWhile fun b => !b).length

theorem zerosAhead_succ (l : List Bool) (n : Nat) :
    zerosAhead l (n + 1) = if l.headD false then 0 else zerosAhead (l.drop 1) n + 1 := by
  unfold zerosAhead
  rw [zeroFilled_succ]
  cases l.headD false <;> rfl

/-- The code at the head of a list of bits, by its leading zero bits (41_bitreader.md R116). -/
theorem ueOf_eq (l : List Bool) :
    ueOf l =
      if zerosAhead l 32 = 32 then (32, 32, 0xFFFFFFFF, true)
      else (zerosAhead l 32, 2 * zerosAhead l 32 + 1,
        2 ^ zerosAhead l 32 - 1 + number (zeroFilled (l.drop (zerosAhead l 32 + 1)) (zerosAhead l 32)), false) := rfl

/-! ## What one fetch does to a list of bytes -/

section

variable (c : BitCursor) (l : List Byte)

@[simp] theorem delivered_nil : delivered c [] = [] := by
  unfold delivered
  split_ifs <;> rfl

/-- A fetch finds nothing left to deliver and takes the whole list, or it takes a part of the list for the first byte
(41_bitreader.md R113). -/
theorem delivered_cases :
    (delivered c l = [] ∧ (fetched c.raw c.zeros l).1 = 0 ∧ (fetched c.raw c.zeros l).2.1 = l.length) ∨
      (delivered c l = (fetched c.raw c.zeros l).1 ::
          delivered { c with zeros := (fetched c.raw c.zeros l).2.2 } (l.drop (fetched c.raw c.zeros l).2.1) ∧
        (fetched c.raw c.zeros l).2.1 ≤ l.length) := by
  obtain ⟨cur, nbits, z, _ | _, pe⟩ := c
  · rcases l with _ | ⟨b, _ | ⟨b', l⟩⟩
    · exact .inl ⟨rfl, rfl, rfl⟩
    all_goals by_cases he : 2 ≤ z ∧ b = 3#8 <;> simp [fetched, delivered, withoutEscapes, he]
  · cases l <;> simp [fetched, delivered]

theorem fetched_byte : (fetched c.raw c.zeros l).1 = (delivered c l).headD 0 := by
  rcases delivered_cases c l with ⟨hd, hb, -⟩ | ⟨hd, -⟩
  · rw [hd, hb]; rfl
  · rw [hd]; rfl

/-- The bytes taken are a part of the list, the whole of it when nothing is left to deliver. -/
theorem min_fetched_length :
    min ((fetched c.raw c.zeros l).2.1 + if (delivered c l).isEmpty then 1 else 0) l.length =
      (fetched c.raw c.zeros l).2.1 := by
  rcases delivered_cases c l with ⟨hd, -, hn⟩ | ⟨hd, hn⟩
  · simp [hd, hn]
  · rw [hd]
    exact min_eq_left hn

/-- A cursor that has moved on as the fetch says delivers the bytes after the first. -/
theorem delivered_drop_fetched {c' : BitCursor} (hraw : c'.raw = c.raw) (hz : c'.zeros = (fetched c.raw c.zeros l).2.2) :
    delivered c' (l.drop (fetched c.raw c.zeros l).2.1) = (delivered c l).tail := by
  rcases delivered_cases c l with ⟨hd, -, hn⟩ | ⟨hd, -⟩
  · rw [hd, hn, List.drop_length, delivered_nil]; rfl
  · rw [hd, delivered, hraw, hz]; rfl

end

/-! ## A source that a list describes -/

variable {σ : Type} {next : Source σ} {rest : σ → List Byte}

/-- `rest x` lists the bytes the source has still to give at `x`. -/
structure Lists (next : Source σ) (rest : σ → List Byte) : Prop where
  head : ∀ x, (next x).1 = (rest x).head?
  tail : ∀ x, rest (next x).2 = (rest x).tail

/-- The place of a source after one more byte. -/
def Source.after (next : Source σ) (x : σ) : σ := (next x).2

/-- The bytes a reader has still to deliver. -/
def Reader.bytesLeft (rest : σ → List Byte) (r : Reader σ) : List Byte := delivered r.bits (rest r.src)

/-- The bits a reader has left. -/
def Reader.left (rest : σ → List Byte) (r : Reader σ) : List Bool := bitsLeft r.bits (rest r.src)

/-- The next byte of a reader and what is fetched to get it (`Claims.fetched`). -/
def Reader.fetched (rest : σ → List Byte) (r : Reader σ) : Byte × Nat × Nat :=
  Claims.fetched r.bits.raw r.bits.zeros (rest r.src)

theorem Reader.left_of_nbits_zero {r : Reader σ} (h : r.bits.nbits = 0) :
    r.left rest = (r.bytesLeft rest).flatMap byteBits := by
  simp [Reader.left, bitsLeft, h, Reader.bytesLeft]

/-- The unread bits of the current byte go out most significant first (41_bitreader.md R114). -/
theorem Reader.left_of_nbits_succ {r : Reader σ} {n : Nat} (h : r.bits.nbits = n + 1) :
    r.left rest = r.bits.cur.getLsbD n :: Reader.left rest { r with bits := { r.bits with nbits := n } } := by
  simp [Reader.left, bitsLeft, h, List.range_succ_eq_map, Function.comp_def, Nat.sub_sub, Nat.add_comm 1]
  rfl

/-- `r'` is `r` with `used` bits taken, zeros past the end (41_bitreader.md R112 to R114). -/
structure Reader.Takes (rest : σ → List Byte) (used : Nat) (r r' : Reader σ) : Prop where
  inside : used ≤ (r.left rest).length → r'.left rest = (r.left rest).drop used
  filled : ∀ i, (r'.left rest).getD i false = (r.left rest).getD (used + i) false
  pastEnd : r'.bits.pastEnd = (r.bits.pastEnd || decide ((r.left rest).length < used))

namespace Reader.Takes

variable {m n : Nat} {r r₁ r₂ : Reader σ}

theorem trans (h₁ : Takes rest m r r₁) (h₂ : Takes rest n r₁ r₂) : Takes rest (m + n) r r₂ where
  inside := fun hle => by
    have hl := h₁.inside (by omega)
    rw [h₂.inside (by rw [hl, List.length_drop]; omega), hl, List.drop_drop]
  filled := fun i => by rw [h₂.filled, h₁.filled, Nat.add_assoc]
  pastEnd := by
    rw [h₂.pastEnd, h₁.pastEnd, Bool.or_assoc]
    congr 1
    by_cases hm : (r.left rest).length < m
    · simp [hm, show (r.left rest).length < m + n by omega]
    · rw [h₁.inside (by omega)]
      simp [hm, List.length_drop, show (r.left rest).length - m < n ↔ (r.left rest).length < m + n by omega]

theorem zeroFilled_eq (h : Takes rest m r r₁) (n : Nat) :
    zeroFilled (r₁.left rest) n = zeroFilled ((r.left rest).drop m) n :=
  zeroFilled_congr (fun i => by rw [h.filled]; simp [List.getD_eq_getElem?_getD]) n

/-- Bits that are there are taken off the front, without a fetch past the end. -/
theorem of_append {taken : List Bool} (hl : r.left rest = taken ++ r₁.left rest)
    (hp : r₁.bits.pastEnd = r.bits.pastEnd) : Takes rest taken.length r r₁ where
  inside := fun _ => by simp [hl]
  filled := fun i => by simp [hl, List.getD_eq_getElem?_getD, List.getElem?_append]
  pastEnd := by simp [hp, hl]

/-- With no bit left, the bits taken are zeros past the end. -/
theorem of_left_nil {k : Nat} (hl : r.left rest = []) (hz : r₁.left rest = List.replicate k false)
    (hp : r₁.bits.pastEnd = true) (hm : 0 < m) : Takes rest m r r₁ where
  inside := fun h => by simp [hl] at h; omega
  filled := fun i => by
    simp only [hz, hl, List.getD_eq_getElem?_getD, List.getElem?_replicate, List.getElem?_nil]
    split_ifs <;> rfl
  pastEnd := by simp [hp, hl, hm]

end Reader.Takes

theorem refill_of_nbits_zero {r : Reader σ} (hn : r.bits.nbits = 0) :
    refill next r = { (fetch next r).2 with bits := { (fetch next r).2.bits with nbits := 8 } } := if_pos hn

theorem refill_of_nbits_pos {r : Reader σ} (hn : 0 < r.bits.nbits) : refill next r = r := if_neg (by omega)

theorem getBit_of_nbits_pos {r : Reader σ} (hn : 0 < r.bits.nbits) :
    (getBit next r).2 = { r with bits := { r.bits with nbits := r.bits.nbits - 1 } } := by
  rw [getBit_eq, refill_of_nbits_pos hn]

theorem getBit_nbits_of_nbits_zero {r : Reader σ} (hn : r.bits.nbits = 0) : (getBit next r).2.bits.nbits = 7 := by
  rw [getBit_eq, refill_of_nbits_zero hn]
  rfl

theorem readUe_of_leadingZeros_none {r : Reader σ} (h : (leadingZeros next 0 32 r).1 = none) :
    readUe next r = ((0xFFFFFFFF, true), (leadingZeros next 0 32 r).2) := by
  unfold readUe
  rcases hlz : leadingZeros next 0 32 r with ⟨o, r₁⟩
  rw [hlz] at h
  subst h
  rfl

theorem readUe_of_leadingZeros_some {r : Reader σ} {z : Nat} (h : (leadingZeros next 0 32 r).1 = some z) :
    readUe next r =
      ((2 ^ z - 1 + (getBits next z (leadingZeros next 0 32 r).2).1, false),
        (getBits next z (leadingZeros next 0 32 r).2).2) := by
  unfold readUe
  rcases hlz : leadingZeros next 0 32 r with ⟨o, r₁⟩
  rw [hlz] at h
  subst h
  rfl

section

variable (h : Lists next rest) (r : Reader σ)
include h

theorem Lists.rest_after_iterate (k : Nat) (x : σ) : rest (next.after^[k] x) = (rest x).drop k := by
  induction k generalizing x with
  | zero => rfl
  | succ k ih => rw [Function.iterate_succ_apply, ih, Source.after, h.tail, List.drop_tail]

theorem Lists.fetchRaw_eq :
    fetchRaw next r = ((rest r.src).headD 0,
      { bits := { r.bits with pastEnd := r.bits.pastEnd || (rest r.src).isEmpty }, src := next.after r.src }) := by
  have hhead := h.head r.src
  unfold fetchRaw Source.after
  rcases hn : next r.src with ⟨_ | b, x⟩ <;> rw [hn] at hhead <;> cases hl : rest r.src <;> simp_all

/-- `fetch()` (41_bitreader.md R113) on the list: one raw fetch more than bytes taken when nothing is left to deliver. -/
theorem Lists.fetch_eq :
    fetch next r = ((r.fetched rest).1,
      { bits :=
          { r.bits with
            cur := (r.fetched rest).1, zeros := (r.fetched rest).2.2
            pastEnd := r.bits.pastEnd || (r.bytesLeft rest).isEmpty }
        src := next.after^[(r.fetched rest).2.1 + if (r.bytesLeft rest).isEmpty then 1 else 0] r.src }) := by
  obtain ⟨⟨cur, nbits, z, raw, pe⟩, x⟩ := r
  unfold fetch Reader.fetched Reader.bytesLeft
  have htail := h.tail x
  simp only [h.fetchRaw_eq]
  cases raw
  · rcases hl : rest x with _ | ⟨b, _ | ⟨b', l⟩⟩
    · simp [zerosAfter, Claims.fetched, delivered, withoutEscapes]
    all_goals
      by_cases he : 2 ≤ z ∧ b = 3#8 <;>
        simp [he, hl, Source.after, htail, zerosAfter, Claims.fetched, delivered, withoutEscapes]
  · cases hl : rest x <;> simp [Claims.fetched, delivered]

theorem Lists.fetch_byte : (fetch next r).1 = (r.bytesLeft rest).headD 0 := by
  rw [h.fetch_eq]
  exact fetched_byte _ _

theorem Lists.rest_fetch : rest (fetch next r).2.src = (rest r.src).drop (r.fetched rest).2.1 := by
  rw [h.fetch_eq, h.rest_after_iterate, List.drop_eq_drop_min, Reader.fetched, Reader.bytesLeft, min_fetched_length]

theorem Lists.fetch_bytesLeft : (fetch next r).2.bytesLeft rest = (r.bytesLeft rest).tail := by
  unfold Reader.bytesLeft
  rw [h.rest_fetch]
  exact delivered_drop_fetched r.bits _ (fetch_raw next r) (by rw [h.fetch_eq]; rfl)

/-- A reader between two bytes takes the eight bits of the next one. -/
theorem Lists.fetch_takes (hn : r.bits.nbits = 0) : Reader.Takes rest 8 r (fetch next r).2 := by
  have hn' : (fetch next r).2.bits.nbits = 0 := by rw [h.fetch_eq]; exact hn
  have hl := Reader.left_of_nbits_zero (rest := rest) hn
  have hl' := Reader.left_of_nbits_zero (rest := rest) hn'
  rw [h.fetch_bytesLeft] at hl'
  have hp : (fetch next r).2.bits.pastEnd = (r.bits.pastEnd || (r.bytesLeft rest).isEmpty) := by rw [h.fetch_eq]
  cases hb : r.bytesLeft rest with
  | nil => exact .of_left_nil (by rw [hl, hb]; rfl) (k := 0) (by simp [hl', hb]) (by simp [hp, hb]) (by omega)
  | cons b bs =>
    exact .of_append (taken := byteBits b) (by rw [hl, hl', hb]; rfl) (by simp [hp, hb])

/-- `byte()` (41_bitreader.md R118): a fetch that leaves no unread bit. -/
theorem Lists.readByte_eq :
    readByte next r = ((r.fetched rest).1,
      { bits :=
          { r.bits with
            cur := (r.fetched rest).1, nbits := 0, zeros := (r.fetched rest).2.2
            pastEnd := r.bits.pastEnd || (r.bytesLeft rest).isEmpty }
        src := next.after^[(r.fetched rest).2.1 + if (r.bytesLeft rest).isEmpty then 1 else 0] r.src }) :=
  h.fetch_eq { r with bits := { r.bits with nbits := 0 } }

/-- BR_BYTE's bits: the unread ones of the current byte, then the eight of the next (41_bitreader.md R118). -/
theorem Lists.readByte_takes : Reader.Takes rest (r.bits.nbits + 8) r (readByte next r).2 := by
  have hdrop : Reader.Takes rest r.bits.nbits r { r with bits := { r.bits with nbits := 0 } } := by
    simpa using Reader.Takes.of_append (rest := rest) (r := r) (r₁ := { r with bits := { r.bits with nbits := 0 } })
      (taken := (List.range r.bits.nbits).map fun k => r.bits.cur.getLsbD (r.bits.nbits - 1 - k)) rfl rfl
  exact hdrop.trans (h.fetch_takes _ rfl)

/-! ## Bits -/

/-- A fresh byte's eight bits stand before those of the bytes after it. -/
theorem Lists.left_refill (hn : r.bits.nbits = 0) :
    (refill next r).left rest =
      byteBits ((r.bytesLeft rest).headD 0) ++ (r.bytesLeft rest).tail.flatMap byteBits := by
  rw [← h.fetch_bytesLeft, ← h.fetch_byte, refill_of_nbits_zero hn]
  have hcur : (fetch next r).2.bits.cur = (fetch next r).1 := by rw [h.fetch_eq]
  rw [← hcur]
  rfl

/-- One bit (41_bitreader.md R114). With none left, the refilled reader holds a byte 0: one of its zeros goes out, seven stay. -/
theorem Lists.getBit_spec :
    (getBit next r).1 = (r.left rest).headD false ∧ Reader.Takes rest 1 r (getBit next r).2 := by
  rw [getBit_eq]
  have hcons := Reader.left_of_nbits_succ (rest := rest) (r := refill next r) (n := (refill next r).bits.nbits - 1)
  rcases Nat.eq_zero_or_pos r.bits.nbits with hn | hn
  · have hp : (refill next r).bits.pastEnd = (r.bits.pastEnd || (r.bytesLeft rest).isEmpty) := by
      rw [refill_of_nbits_zero hn, h.fetch_eq]
    have hl := Reader.left_of_nbits_zero (rest := rest) hn
    have hrefill := h.left_refill r hn
    have hn8 : (refill next r).bits.nbits = 8 := congrArg (·.bits.nbits) (refill_of_nbits_zero hn)
    rw [hcons (by omega)] at hrefill
    cases hb : r.bytesLeft rest with
    | nil =>
      rw [hb] at hl hp hrefill
      obtain ⟨hbit, hzeros⟩ := List.cons_eq_cons.mp (hrefill.trans (by rfl : _ = false :: List.replicate 7 false))
      exact ⟨hbit.trans (by rw [hl]; rfl), .of_left_nil hl hzeros (by simp [hp]) Nat.one_pos⟩
    | cons b bs =>
      rw [hb] at hl hp hrefill
      have hl' := hl.trans hrefill.symm
      exact ⟨by rw [hl']; rfl, .of_append (taken := [_]) hl' (by simp [hp])⟩
  · rw [refill_of_nbits_pos hn] at hcons ⊢
    have hl := hcons (by omega)
    exact ⟨by rw [hl]; rfl, .of_append (taken := [_]) hl rfl⟩

/-- A number of `n` bits (41_bitreader.md R115), zeros past the end. -/
theorem Lists.getBitsFrom_spec (v n : Nat) :
    (getBitsFrom next v n r).1 = (zeroFilled (r.left rest) n).foldl (fun v b => 2 * v + b.toNat) v ∧
      Reader.Takes rest n r (getBitsFrom next v n r).2 := by
  induction n generalizing v r with
  | zero => exact ⟨rfl, .of_append (taken := []) rfl rfl⟩
  | succ n ih =>
    obtain ⟨hbit, htake⟩ := h.getBit_spec r
    obtain ⟨hval, htakes⟩ := ih (getBit next r).2 (2 * v + (getBit next r).1.toNat)
    rw [getBitsFrom_succ]
    refine ⟨?_, Nat.add_comm n 1 ▸ htake.trans htakes⟩
    rw [hval, zeroFilled_succ, List.foldl_cons, htake.zeroFilled_eq, hbit]

/-- The zero bits before the first 1 (41_bitreader.md R116), that bit taken too unless `n` zero bits come first. -/
theorem Lists.leadingZeros_spec (z n : Nat) :
    (leadingZeros next z n r).1 =
        (if zerosAhead (r.left rest) n = n then none else some (z + zerosAhead (r.left rest) n)) ∧
      Reader.Takes rest (if zerosAhead (r.left rest) n = n then n else zerosAhead (r.left rest) n + 1) r
        (leadingZeros next z n r).2 := by
  induction n generalizing z r with
  | zero => exact ⟨rfl, .of_append (taken := []) rfl rfl⟩
  | succ n ih =>
    obtain ⟨hbit, htake⟩ := h.getBit_spec r
    obtain ⟨hval, htakes⟩ := ih (getBit next r).2 (z + 1)
    have hahead : zerosAhead (r.left rest) (n + 1) =
        if (getBit next r).1 then 0 else zerosAhead ((getBit next r).2.left rest) n + 1 := by
      rw [zerosAhead_succ, hbit, zerosAhead, zerosAhead, htake.zeroFilled_eq]
    rw [leadingZeros_succ, hahead]
    cases (getBit next r).1 with
    | true => simpa using htake
    | false =>
      simp only [Bool.false_eq_true, if_false, Nat.add_right_cancel_iff]
      refine ⟨by rw [hval, Nat.add_assoc, Nat.add_comm 1], ?_⟩
      have htotal := htake.trans htakes
      rw [Nat.add_comm] at htotal
      split_ifs at htotal ⊢ <;> exact htotal

/-- One Exp-Golomb code (41_bitreader.md R116). -/
theorem Lists.readUe_spec :
    (readUe next r).1 = (ueOf (r.left rest)).2.2 ∧
      Reader.Takes rest (ueOf (r.left rest)).2.1 r (readUe next r).2 := by
  obtain ⟨hval, htake⟩ := h.leadingZeros_spec r 0 32
  rw [ueOf_eq]
  by_cases hz : zerosAhead (r.left rest) 32 = 32
  · rw [if_pos hz] at hval htake ⊢
    rw [readUe_of_leadingZeros_none hval]
    exact ⟨rfl, htake⟩
  · rw [if_neg hz, Nat.zero_add] at hval
    rw [if_neg hz] at htake ⊢
    obtain ⟨hx, htakes⟩ := h.getBitsFrom_spec (leadingZeros next 0 32 r).2 0 (zerosAhead (r.left rest) 32)
    rw [htake.zeroFilled_eq] at hx
    have htotal := htake.trans htakes
    rw [Nat.add_right_comm, ← Nat.two_mul] at htotal
    rw [readUe_of_leadingZeros_some hval]
    exact ⟨by rw [getBits, hx]; rfl, htotal⟩

end

/-! ## The BR cursor's source -/

/-- The bytes of the BR view at and beyond place `idx`. -/
def State.brRestAt (s : State) (idx : Word) : List Byte := brRest { s with brIdx := idx }

theorem State.brRestAt_nil {s : State} {idx : Word} (h : s.brLen.toNat ≤ idx.toNat) : s.brRestAt idx = [] := by
  simp [State.brRestAt, brRest, h]

/-- Inside the view the next place is the next number. -/
theorem toNat_add_one_of_lt {s : State} {idx : Word} (h : idx.toNat < s.brLen.toNat) : (idx + 1).toNat = idx.toNat + 1 := by
  bv_omega

theorem State.brRestAt_cons {s : State} {idx : Word} (h : idx.toNat < s.brLen.toNat) :
    s.brRestAt idx = s.bufByte (s.brBase.toNat + idx.toNat) :: s.brRestAt (idx + 1) := by
  have hsucc := toNat_add_one_of_lt h
  obtain ⟨n, hn⟩ : ∃ n, s.brLen.toNat - idx.toNat = n + 1 := ⟨s.brLen.toNat - idx.toNat - 1, by omega⟩
  have hn' : s.brLen.toNat - (idx + 1).toNat = n := by omega
  simp only [State.brRestAt, brRest, hn, hn', List.range_succ_eq_map, List.map_cons, List.map_map]
  exact congrArg _ (List.map_congr_left fun i _ => congrArg s.bufByte
    (by omega : s.brBase.toNat + idx.toNat + (i + 1) = s.brBase.toNat + (idx + 1).toNat + i))

theorem State.brSource_inside {s : State} {idx : Word} (h : idx.toNat < s.brLen.toNat) :
    s.brSource idx = (some (s.bufByte (s.brBase.toNat + idx.toNat)), idx + 1) := if_pos h

theorem State.brSource_atEnd {s : State} {idx : Word} (h : s.brLen.toNat ≤ idx.toNat) : s.brSource idx = (none, idx) :=
  if_neg (by omega)

theorem State.brSource_lists (s : State) : Lists s.brSource s.brRestAt where
  head := fun idx => by
    rcases Nat.lt_or_ge idx.toNat s.brLen.toNat with h | h
    · rw [brSource_inside h, brRestAt_cons h]; rfl
    · rw [brSource_atEnd h, brRestAt_nil h]; rfl
  tail := fun idx => by
    rcases Nat.lt_or_ge idx.toNat s.brLen.toNat with h | h
    · rw [brSource_inside h, brRestAt_cons h]; rfl
    · rw [brSource_atEnd h, brRestAt_nil h]; rfl

/-- BR_IDX moves with the bytes fetched and stays at BR_LEN (41_bitreader.md R112). -/
theorem State.brSource_after_iterate (s : State) (k : Nat) (idx : Word) :
    ((Source.after s.brSource)^[k] idx).toNat = idx.toNat + min k (s.brRestAt idx).length := by
  induction k generalizing idx with
  | zero => simp
  | succ k ih =>
    rw [Function.iterate_succ_apply, ih, Source.after]
    rcases Nat.lt_or_ge idx.toNat s.brLen.toNat with h | h
    · simp only [brSource_inside h, brRestAt_cons h, toNat_add_one_of_lt h, List.length_cons]
      omega
    · simp [brSource_atEnd h, brRestAt_nil h]

/-! ## The end of a BR read -/

theorem State.brReader_left (s : State) : s.brReader.left s.brRestAt = brBitsLeft s := rfl

/-- A BR read whose reader took `used` bits and gave `v` ends as the claims say (41_bitreader.md R110, R114 to R118). -/
theorem exec_brRead {i : Instr} {s : State} {used : Nat} {r : Reader Word} {v : DWord} {ovf : Bool}
    (ha : s.brState.active = true)
    (hrule : ruleOf i (s.beginCommand (encode i)) = .ok ((s.beginCommand (encode i)).endBrRead r v ovf))
    (hraw : r.bits.raw = s.brState.bits.raw) (htakes : Reader.Takes s.brRestAt used s.brReader r) :
    exec i s = .next ((s.beginCommand (encode i)).endBrRead r v ovf) ∧
      brAnswer s ((s.beginCommand (encode i)).endBrRead r v ovf) i used v ovf := by
  refine ⟨(exec_eq_command i s).trans (command_ok hrule), ?_, htakes.inside, htakes.zeroFilled_eq, htakes.pastEnd, hraw, ha⟩
  have hp : r.bits.pastEnd = brPastEnd s used := htakes.pastEnd
  rw [← hp]
  rfl

/-- Without BR_INIT before it a BR read ends with NOT_CONFIGURED (41_bitreader.md R110). -/
theorem exec_brRead_notActive {i : Instr} {s : State} (hi : i ∈ brReads) (ha : s.brState.active = false) :
    exec i s = .next (failed s (encode i) .notConfigured) :=
  exec_failed (if_pos (.inl ⟨hi, ha⟩))

theorem brInitRule_inside {s : State} (h : s.viewEnd ≤ s.params.bufSize) (raw : Bool) :
    brInitRule raw s =
      .ok { s.reportValid true with
        brBase := s.addr, brLen := s.len, brIdx := 0, brState := { bits := .fresh raw, active := true } } :=
  withView_inside h _

/-! The rule of a BR read whose cursor is active, after the cycle's start. -/

section

variable {s : State} {w : Word} (ha : s.brState.active = true)
include ha

theorem brBitRule_active :
    brBitRule (s.beginCommand w) =
      .ok ((s.beginCommand w).endBrRead (getBit s.brSource s.brReader).2
        (BitVec.ofNat 64 (getBit s.brSource s.brReader).1.toNat) false) :=
  if_pos ha

theorem brBitsRule_active (hn : s.opa.toNat ≤ 32) :
    brBitsRule (s.beginCommand w) =
      .ok ((s.beginCommand w).endBrRead (getBits s.brSource s.opa.toNat s.brReader).2
        (BitVec.ofNat 64 (getBits s.brSource s.opa.toNat s.brReader).1) false) :=
  (if_pos ha).trans (if_neg (Nat.not_lt.mpr hn))

theorem brUeRule_active :
    brUeRule (s.beginCommand w) =
      .ok ((s.beginCommand w).endBrRead (readUe s.brSource s.brReader).2 (BitVec.ofNat 64 (readUe s.brSource s.brReader).1.1)
        (readUe s.brSource s.brReader).1.2) :=
  if_pos ha

theorem brSeRule_active :
    brSeRule (s.beginCommand w) =
      .ok ((s.beginCommand w).endBrRead (readUe s.brSource s.brReader).2
        (BitVec.ofInt 64 (seOfUe (readUe s.brSource s.brReader).1.1 (readUe s.brSource s.brReader).1.2))
        (readUe s.brSource s.brReader).1.2) :=
  if_pos ha

theorem brByteRule_active :
    brByteRule (s.beginCommand w) =
      .ok ((s.beginCommand w).endBrRead (readByte s.brSource s.brReader).2
        ((readByte s.brSource s.brReader).1.setWidth 64) false) :=
  if_pos ha

end

/-! ## Signed codes -/

theorem zerosAhead_le (l : List Bool) (n : Nat) : zerosAhead l n ≤ n := by
  unfold zerosAhead
  exact (List.takeWhile_sublist _).length_le.trans (by simp [zeroFilled])

/-- Bits after a number `v` spell less than the next number followed by zeros. -/
theorem foldl_bits_lt (l : List Bool) (v : Nat) :
    l.foldl (fun v b => 2 * v + b.toNat) v < (v + 1) * 2 ^ l.length := by
  induction l generalizing v with
  | nil => simp
  | cons b l ih =>
    refine (ih (2 * v + b.toNat)).trans_le ?_
    rw [List.length_cons, pow_succ', ← Nat.mul_assoc]
    exact Nat.mul_le_mul_right _ (by have := b.toNat_le; omega)

/-- The value of a code fits 32 bits (41_bitreader.md R116). -/
theorem ueOf_value_lt (l : List Bool) : (ueOf l).2.2.1 < 2 ^ 32 := by
  have hz := zerosAhead_le l 32
  rw [ueOf_eq]
  split_ifs with h
  · decide
  · have hx : number (zeroFilled (l.drop (zerosAhead l 32 + 1)) (zerosAhead l 32)) < 2 ^ zerosAhead l 32 := by
      simpa [number, zeroFilled] using foldl_bits_lt (zeroFilled (l.drop (zerosAhead l 32 + 1)) (zerosAhead l 32)) 0
    have hpow : 2 ^ (zerosAhead l 32 + 1) ≤ 2 ^ 32 := Nat.pow_le_pow_right (by omega) (by omega)
    rw [pow_succ] at hpow
    dsimp only
    omega

/-- A signed value of a code, doubled (41_bitreader.md R117). -/
theorem two_mul_seOfUe (k : Nat) : 2 * seOfUe k false = if k % 2 = 1 then (k : Int) + 1 else -k := by
  unfold seOfUe
  simp only [Bool.false_eq_true, if_false]
  split_ifs <;> omega

/-- RES0 holds the signed value of a code of 32 bits (41_bitreader.md R117). -/
theorem toInt_seOfUe {k : Nat} (hk : k < 2 ^ 32) (ovf : Bool) : (BitVec.ofInt 64 (seOfUe k ovf)).toInt = seOfUe k ovf := by
  have hbound : -2 ^ 31 ≤ seOfUe k ovf ∧ seOfUe k ovf ≤ 2 ^ 31 := by
    cases ovf with
    | true => exact ⟨le_refl (-2 ^ 31 : Int), (by decide : (-2 ^ 31 : Int) ≤ 2 ^ 31)⟩
    | false =>
      have hdouble := two_mul_seOfUe k
      split_ifs at hdouble <;> omega
  exact BitVec.toInt_ofInt_eq_self (by omega) (by omega) (by omega)

/-! ## BR_BYTE again and again -/

/-- The bytes the BR cursor has still to deliver. -/
def State.brBytesLeft (s : State) : List Byte := s.brReader.bytesLeft s.brRestAt

/-- One BR_BYTE delivers the first of the bytes left and leaves the others (41_bitreader.md R118). -/
theorem exec_brByte_delivers {s : State} (ha : s.brState.active = true) :
    ∃ t, exec .brByte s = .next t ∧ t.brState.active = true ∧ t.res0.toNat = (s.brBytesLeft.headD 0).toNat ∧
      t.brBytesLeft = s.brBytesLeft.tail := by
  have hlists := s.brSource_lists
  have hbyte : (readByte s.brSource s.brReader).1 = s.brBytesLeft.headD 0 := hlists.fetch_byte _
  refine ⟨_, (exec_eq_command _ s).trans (command_ok (brByteRule_active ha)), ha, ?_, hlists.fetch_bytesLeft _⟩
  rw [← hbyte]
  exact BitVec.toNat_setWidth_of_le (by decide)

/-- A cursor at the start of the input view has all of it left (41_bitreader.md R111, R113). -/
theorem brBytesLeft_atStart (s : State) (i : Instr) (raw : Bool) :
    State.brBytesLeft { answered s i true with
      brBase := s.addr, brLen := s.len, brIdx := 0, brState := { bits := .fresh raw, active := true } } =
      if raw then viewBytes s else withoutEscapes 0 (viewBytes s) := by
  cases raw <;> rfl

/-- BR_BYTE commands in a row deliver the bytes left in order, then zeros. -/
theorem brByteRun_eq {s : State} (ha : s.brState.active = true) (n : Nat) :
    brByteRun n s = (List.range n).map fun k => (s.brBytesLeft.getD k 0).toNat := by
  induction n generalizing s with
  | zero => rfl
  | succ n ih =>
    obtain ⟨t, ht, hactive, hres, hleft⟩ := exec_brByte_delivers ha
    rw [brByteRun, ht]
    simp only
    rw [ih hactive, hres, hleft, List.range_succ_eq_map, List.map_cons, List.map_map]
    cases s.brBytesLeft <;> rfl

end Sys2Proof.Machine

namespace Sys2Proof.Proofs

open Sys2Proof.Machine Sys2Proof.Claims

/-- Settles O22: the range check is the only cause of an error, and the rule's state is the one claimed. -/
theorem brInitStartsCursor : Obligations.BrInitStartsCursor := by
  intro s raw
  refine ⟨fun h => ?_, fun h => exec_failed ?_⟩
  · have h' : (s.beginCommand (encode (if raw then .brInitRaw else .brInit))).viewEnd ≤ s.params.bufSize := h
    rw [exec_eq_command, command_ok]
    cases raw <;> exact brInitRule_inside h' _
  · have h' : s.params.bufSize < s.addr.toNat + s.len.toNat := Nat.lt_of_not_le h
    cases raw <;> simp [errorOf, brReads, fdConfigs, viewCommands, h']

/-- Settles O23: a bit is taken from the refilled reader, and only a reader without unread bits fetches. -/
theorem brBitTakesNextBit : Obligations.BrBitTakesNextBit := by
  intro s
  refine ⟨fun ha => ?_, exec_brRead_notActive (by decide)⟩
  obtain ⟨hbit, htakes⟩ := s.brSource_lists.getBit_spec s.brReader
  obtain ⟨hexec, hanswer⟩ := exec_brRead (i := .brBit) ha (brBitRule_active ha) (getBit_raw _ _) htakes
  refine ⟨_, hexec, hbit ▸ hanswer, fun hn => ?_, getBit_nbits_of_nbits_zero (r := s.brReader)⟩
  have hread := getBit_of_nbits_pos (next := s.brSource) (r := s.brReader) hn
  exact ⟨congrArg Reader.src hread, congrArg Reader.bits hread⟩

/-- Settles O24: bit after bit, by induction on their number (`Lists.getBitsFrom_spec`). -/
theorem brBitsTakesNumber : Obligations.BrBitsTakesNumber := by
  intro s
  refine ⟨fun ha hn => ?_, exec_brRead_notActive (by decide), fun ha hn => exec_failed ?_⟩
  · obtain ⟨hval, htakes⟩ := s.brSource_lists.getBitsFrom_spec s.brReader 0 s.opa.toNat
    obtain ⟨hexec, hanswer⟩ := exec_brRead (i := .brBits) ha (brBitsRule_active ha hn) (getBitsFrom_raw _ _ _ _) htakes
    exact ⟨_, hexec, hval ▸ hanswer⟩
  · simp [errorOf, brReads, ha, hn]

/-- Settles O25: the leading zero bits, then as many bits as they are (`Lists.readUe_spec`). -/
theorem brUeTakesExpGolomb : Obligations.BrUeTakesExpGolomb := by
  intro s
  refine ⟨fun ha => ?_, exec_brRead_notActive (by decide)⟩
  obtain ⟨hval, htakes⟩ := s.brSource_lists.readUe_spec s.brReader
  obtain ⟨hexec, hanswer⟩ := exec_brRead (i := .brUe) ha (brUeRule_active ha) (readUe_raw _ _) htakes
  exact ⟨_, hexec, hval ▸ hanswer⟩

/-- Settles O26: the reader is BR_UE's, and the signed value of a 32-bit code fits RES0. -/
theorem brSeTakesSignedExpGolomb : Obligations.BrSeTakesSignedExpGolomb := by
  intro s
  refine ⟨fun ha => ?_, exec_brRead_notActive (by decide)⟩
  obtain ⟨hval, htakes⟩ := s.brSource_lists.readUe_spec s.brReader
  obtain ⟨hexec, hanswer⟩ := exec_brRead (i := .brSe) ha (brSeRule_active ha) (readUe_raw _ _) htakes
  rw [State.brReader_left] at hval hanswer
  have hres : (BitVec.ofInt 64 (seOfUe (readUe s.brSource s.brReader).1.1 (readUe s.brSource s.brReader).1.2)).toInt =
      seOfUe (ueOf (brBitsLeft s)).2.2.1 (ueOf (brBitsLeft s)).2.2.2 := by
    rw [hval]
    exact toInt_seOfUe (ueOf_value_lt _) _
  refine ⟨_, hexec, hval ▸ hanswer, fun hovf => hres.trans (by rw [hovf]; rfl), ?_⟩
  rintro hovf k rfl
  rw [hovf] at hres
  have hdouble := (congrArg (2 * ·) hres).trans (two_mul_seOfUe _)
  exact ⟨fun hodd => hdouble.trans (if_pos hodd), fun heven => hdouble.trans (if_neg (by omega))⟩

/-- Settles O27: one fetch on the list of bytes to come (`Lists.readByte_eq`). -/
theorem brByteFetchesNextByte : Obligations.BrByteFetchesNextByte := by
  intro s
  refine ⟨fun ha => ?_, exec_brRead_notActive (by decide)⟩
  have hlists := s.brSource_lists
  obtain ⟨hexec, hanswer⟩ := exec_brRead (i := .brByte) ha (brByteRule_active ha) (fetch_raw _ _)
    (hlists.readByte_takes s.brReader)
  have hread := hlists.readByte_eq s.brReader
  have hbits := congrArg (·.2.bits) hread
  have hval : ((readByte s.brSource s.brReader).1.setWidth 64 : DWord) =
      BitVec.ofNat 64 (s.brReader.fetched s.brRestAt).1.toNat := by
    rw [hread, BitVec.ofNat_toNat]
  refine ⟨_, hexec, hval ▸ hanswer, congrArg BitCursor.cur hbits, congrArg BitCursor.nbits hbits, ?_,
    congrArg BitCursor.zeros hbits⟩
  have hidx := s.brSource_after_iterate
    ((s.brReader.fetched s.brRestAt).2.1 + if (s.brReader.bytesLeft s.brRestAt).isEmpty then 1 else 0) s.brIdx
  exact (congrArg (·.2.src.toNat) hread).trans (hidx.trans (congrArg _ (min_fetched_length _ _)))

/-- Settles O28: BR_INIT leaves the whole view to deliver, and each BR_BYTE delivers its first byte and leaves the others. -/
theorem brBytesDeliverTheView : Obligations.BrBytesDeliverTheView := by
  intro s t raw n h ht
  obtain rfl := Host.Outcome.next.inj (((brInitStartsCursor s raw).1 h).symm.trans ht)
  rw [brByteRun_eq rfl]
  exact congrArg (fun l : List Byte => (List.range n).map fun k => (l.getD k 0).toNat) (brBytesLeft_atStart s _ raw)

end Sys2Proof.Proofs
end

section
/-! The CRC commands (42_crc.md R130 to R138). A round of the CRC is linear and loses nothing; from that come the table form, the
residue and the detection of a single flipped bit. Then the commands over the bytes of the input view. -/

namespace Sys2Proof.Machine

open Sys2Proof.Claims

/-! ## Rounds -/

theorem getLsbD_top (c : Word) : c.getLsbD 31 = decide (2 ^ 31 ≤ c.toNat) :=
  BitVec.msb_eq_getLsbD_last c ▸ BitVec.msb_eq_decide c

theorem crcBit_of_lt {c : Word} (h : c.toNat < 2 ^ 31) : crcBit c = c <<< 1 :=
  if_neg (by rw [getLsbD_top, decide_eq_true_eq]; omega)

theorem crcBit_of_le {c : Word} (h : 2 ^ 31 ≤ c.toNat) : crcBit c = (c <<< 1) ^^^ crcPoly :=
  if_pos (by rwa [getLsbD_top, decide_eq_true_eq])

theorem toNat_shiftLeft_one (c : Word) : (c <<< 1).toNat = 2 * c.toNat % 2 ^ 32 := by
  rw [BitVec.toNat_shiftLeft, Nat.shiftLeft_eq, Nat.mul_comm, pow_one]

theorem crcBit_toNat (c : Word) : (crcBit c).toNat = crcRound c.toNat := by
  unfold crcRound
  by_cases h : 2 ^ 31 ≤ c.toNat
  · rw [crcBit_of_le h, if_pos h, BitVec.toNat_xor, toNat_shiftLeft_one]
    rfl
  · rw [crcBit_of_lt (by omega), if_neg h, toNat_shiftLeft_one]
    omega

theorem crcBits_toNat (n : Nat) (c : Word) : (crcBits n c).toNat = crcRound^[n] c.toNat := by
  induction n generalizing c with
  | zero => rfl
  | succ n ih => rw [crcBits, ih, crcBit_toNat, Function.iterate_succ_apply]

/-- A round is linear: where both top bits leave, the polynomial cancels. -/
theorem crcBit_xor (a b : Word) : crcBit (a ^^^ b) = crcBit a ^^^ crcBit b := by
  unfold crcBit
  rw [BitVec.getLsbD_xor, BitVec.shiftLeft_xor_distrib]
  cases a.getLsbD 31 <;> cases b.getLsbD 31 <;>
    simp only [Bool.xor_false, Bool.xor_true, Bool.not_false, Bool.not_true, Bool.false_eq_true, if_true, if_false]
  · ac_rfl
  · ac_rfl
  · rw [show a <<< 1 ^^^ crcPoly ^^^ (b <<< 1 ^^^ crcPoly) = a <<< 1 ^^^ b <<< 1 ^^^ (crcPoly ^^^ crcPoly) by ac_rfl,
      BitVec.xor_self, BitVec.xor_zero]

/-- The polynomial is odd, so a round that subtracts it leaves bit 0 set. -/
theorem crcBit_eq_zero {c : Word} (h : crcBit c = 0) : c = 0 := by
  by_cases htop : 2 ^ 31 ≤ c.toNat
  · rw [crcBit_of_le htop] at h
    have hbit := congrArg (·.getLsbD 0) h
    simp [crcPoly] at hbit
  · rw [crcBit_of_lt (by omega)] at h
    have hnat := congrArg BitVec.toNat h
    rw [toNat_shiftLeft_one] at hnat
    exact BitVec.eq_of_toNat_eq (by simp at hnat ⊢; omega)

theorem crcBits_xor (n : Nat) (a b : Word) : crcBits n (a ^^^ b) = crcBits n a ^^^ crcBits n b := by
  induction n generalizing a b with
  | zero => rfl
  | succ n ih => rw [crcBits, crcBit_xor, ih]; rfl

theorem crcBits_eq_zero {n : Nat} {c : Word} (h : crcBits n c = 0) : c = 0 := by
  induction n generalizing c with
  | zero => exact h
  | succ n ih => exact crcBit_eq_zero (ih h)

theorem crcBits_add (m n : Nat) (c : Word) : crcBits (m + n) c = crcBits n (crcBits m c) := by
  induction m generalizing c with
  | zero => rw [Nat.zero_add]; rfl
  | succ m ih => rw [Nat.succ_add]; exact ih (crcBit c)

/-- Rounds through which no set bit leaves the top only shift. -/
theorem crcBits_eq_shiftLeft {n : Nat} {c : Word} (h : c.toNat * 2 ^ n < 2 ^ 32) : crcBits n c = c <<< n := by
  induction n generalizing c with
  | zero => simp [crcBits]
  | succ n ih =>
    rw [pow_succ', ← Nat.mul_assoc] at h
    have hlt : c.toNat * 2 < 2 ^ 32 := (Nat.le_mul_of_pos_right _ (Nat.two_pow_pos n)).trans_lt h
    have hnat : (c <<< 1).toNat = c.toNat * 2 := by rw [toNat_shiftLeft_one]; omega
    rw [crcBits, crcBit_of_lt (by omega), ih (by rwa [hnat]), ← BitVec.shiftLeft_add, Nat.add_comm]

/-! ## Bytes -/

/-- A byte at the top of a word, where it enters (42_crc.md R130). -/
def topByte (d : Byte) : Word := d.setWidth 32 <<< 24

theorem crcByte_eq (c : Word) (d : Byte) : crcByte c d = crcBits 8 (c ^^^ topByte d) := rfl

theorem topByte_toNat (d : Byte) : (topByte d).toNat = d.toNat * 2 ^ 24 := by
  have := d.isLt
  rw [topByte, BitVec.toNat_shiftLeft, BitVec.toNat_setWidth_of_le (by decide), Nat.shiftLeft_eq, Nat.mod_eq_of_lt (by omega)]

theorem topByte_xor (d e : Byte) : topByte (d ^^^ e) = topByte d ^^^ topByte e := by
  rw [topByte, BitVec.setWidth_xor, BitVec.shiftLeft_xor_distrib]
  rfl

theorem topByte_eq_zero {d : Byte} (h : topByte d = 0) : d = 0 := by
  have hnat := congrArg BitVec.toNat h
  rw [topByte_toNat] at hnat
  exact BitVec.eq_of_toNat_eq (by simpa using hnat)

theorem crcByte_xor_left (a b : Word) (d : Byte) : crcByte (a ^^^ b) d = crcByte a d ^^^ crcBits 8 b := by
  rw [crcByte_eq, crcByte_eq, ← crcBits_xor, BitVec.xor_assoc, BitVec.xor_comm b, ← BitVec.xor_assoc]

theorem crcByte_xor_right (c : Word) (d e : Byte) : crcByte c (d ^^^ e) = crcByte c d ^^^ crcBits 8 (topByte e) := by
  rw [crcByte_eq, crcByte_eq, ← crcBits_xor, topByte_xor, BitVec.xor_assoc]

/-- The most significant byte of a word. -/
def highByte (c : Word) : Byte := (c >>> 24).setWidth 8

/-- What is left of a word without its most significant byte. -/
theorem xor_topByte_highByte (c : Word) : c ^^^ topByte (highByte c) = c <<< 8 >>> 8 := by
  refine BitVec.eq_of_getLsbD_eq fun i hi => ?_
  simp only [topByte, highByte, BitVec.getLsbD_xor, BitVec.getLsbD_shiftLeft, BitVec.getLsbD_ushiftRight,
    BitVec.getLsbD_setWidth]
  by_cases h : i < 24
  · simp [h, hi, show 8 + i < 32 by omega]
  · simp [h, hi, show ¬8 + i < 32 by omega, show i - 24 < 8 by omega, show i - 24 < 32 by omega,
      show 24 + (i - 24) = i by omega]

/-- A byte equal to the CRC's own top byte cancels it and shifts the rest up. -/
theorem crcByte_highByte (c : Word) : crcByte c (highByte c) = c <<< 8 := by
  have hlow : (c <<< 8 >>> 8).toNat = c.toNat * 2 ^ 8 % 2 ^ 32 / 2 ^ 8 := by
    rw [BitVec.toNat_ushiftRight, BitVec.toNat_shiftLeft, Nat.shiftLeft_eq, Nat.shiftRight_eq_div_pow]
  rw [crcByte_eq, xor_topByte_highByte, crcBits_eq_shiftLeft (by omega)]
  refine BitVec.eq_of_toNat_eq ?_
  rw [BitVec.toNat_shiftLeft, hlow, BitVec.toNat_shiftLeft, Nat.shiftLeft_eq, Nat.shiftLeft_eq]
  omega

/-! ## Sequences of bytes -/

theorem crc32Update_cons (c : Word) (d : Byte) (D : List Byte) : crc32Update c (d :: D) = crc32Update (crcByte c d) D := rfl

theorem crc32Update_singleton (c : Word) (d : Byte) : crc32Update c [d] = crcByte c d := rfl

theorem crc32Update_append (c : Word) (A B : List Byte) :
    crc32Update c (A ++ B) = crc32Update (crc32Update c A) B := List.foldl_append

/-- A difference of the CRC before a sequence goes through the rounds by itself, whatever the bytes. -/
theorem crc32Update_xor (a b : Word) (D : List Byte) :
    crc32Update (a ^^^ b) D = crc32Update a D ^^^ crcBits (8 * D.length) b := by
  induction D generalizing a b with
  | nil => rfl
  | cons d D ih =>
    rw [crc32Update_cons, crcByte_xor_left, ih, ← crcBits_add, List.length_cons, Nat.mul_succ, Nat.add_comm]
    rfl

/-- The table form (42_crc.md R130): the byte and the CRC's top byte choose the entry. -/
theorem crcByte_table (c : Word) (d : Byte) : crcByte c d = (c <<< 8) ^^^ crcByte 0 (highByte c ^^^ d) := by
  calc crcByte c d
      = crcByte c (highByte c ^^^ (highByte c ^^^ d)) := by rw [← BitVec.xor_assoc, BitVec.xor_self, BitVec.zero_xor]
    _ = (c <<< 8) ^^^ crcByte 0 (highByte c ^^^ d) := by
        rw [crcByte_xor_right, crcByte_highByte, crcByte_eq 0 (highByte c ^^^ d), BitVec.ofNat_eq_ofNat, BitVec.zero_xor]

/-- The bytes of a CRC come to its top one after another. -/
theorem crcTail_eq (c : Word) : crcTail c = (List.range 4).map fun i => highByte (c <<< (8 * i)) := by
  have hc := c.isLt
  refine List.map_congr_left fun i hi => BitVec.eq_of_toNat_eq ?_
  rw [highByte, BitVec.toNat_setWidth, BitVec.toNat_ushiftRight, BitVec.toNat_shiftLeft, BitVec.toNat_ofNat,
    Nat.shiftLeft_eq, Nat.shiftRight_eq_div_pow]
  have hi : i < 4 := List.mem_range.mp hi
  interval_cases i <;> omega

/-- Each byte of a CRC takes itself out (42_crc.md R137). -/
theorem crc32Update_highBytes (c : Word) (n : Nat) :
    crc32Update c ((List.range n).map fun i => highByte (c <<< (8 * i))) = c <<< (8 * n) := by
  induction n with
  | zero => simp [crc32Update]
  | succ n ih =>
    rw [List.range_succ, List.map_append, crc32Update_append, ih, List.map_singleton, crc32Update_singleton,
      crcByte_highByte, ← BitVec.shiftLeft_add]
    rfl

/-- The residue (42_crc.md R137). -/
theorem crc32Update_crcTail (c : Word) : crc32Update c (crcTail c) = 0 := by
  rw [crcTail_eq, crc32Update_highBytes]
  exact BitVec.shiftLeft_eq_zero (by decide)

/-- A difference in byte `j` enters at the top and goes through the rounds of that byte and the later ones. -/
theorem crc32Update_set (c : Word) {D : List Byte} {j : Nat} (hj : j < D.length) (e : Byte) :
    crc32Update c (D.set j (D[j] ^^^ e)) = crc32Update c D ^^^ crcBits (8 * (D.length - j)) (topByte e) := by
  induction D generalizing c j with
  | nil => exact absurd hj (Nat.not_lt_zero j)
  | cons d D ih =>
    cases j with
    | zero =>
      rw [List.set_cons_zero, List.getElem_cons_zero, crc32Update_cons, crcByte_xor_right, crc32Update_xor, ← crcBits_add,
        Nat.sub_zero, List.length_cons, Nat.mul_succ, Nat.add_comm]
      rfl
    | succ j =>
      have hj' : j < D.length := Nat.lt_of_succ_lt_succ hj
      rw [List.set_cons_succ, List.getElem_cons_succ, crc32Update_cons, ih (crcByte c d) hj', List.length_cons,
        Nat.succ_sub_succ]
      rfl

/-- The rounds lose no difference (42_crc.md R138). -/
theorem crc32Update_set_ne (c : Word) {D : List Byte} {j : Nat} (hj : j < D.length) {e : Byte} (he : e ≠ 0) :
    crc32Update c (D.set j (D[j] ^^^ e)) ≠ crc32Update c D := by
  rw [crc32Update_set]
  intro h
  have hzero : crcBits (8 * (D.length - j)) (topByte e) = 0 :=
    (BitVec.xor_right_inj (crc32Update c D)).mp (h.trans BitVec.xor_zero.symm)
  exact he (topByte_eq_zero (crcBits_eq_zero hzero))

/-! ## The input view -/

theorem State.bytes_eq_map (s : State) (a n : Nat) : s.bytes a n = (List.range n).map fun i => s.bufByte (a + i) := by
  induction n generalizing a with
  | zero => rfl
  | succ n ih =>
    rw [State.bytes, ih, List.range_succ_eq_map]
    simp [Function.comp_def, Nat.add_assoc, Nat.add_comm 1]

@[simp] theorem State.inputView_bytes (s : State) : s.inputView.bytes = viewBytes s := State.bytes_eq_map s _ _

@[simp] theorem viewBytes_length (s : State) : (viewBytes s).length = s.len.toNat := by simp [viewBytes]

theorem byteAt_eq (s : State) (i : Nat) : byteAt s i = ((viewBytes s).getD i 0).toNat := by
  rw [← State.inputView_bytes, ← State.inputView_get_toNat, View.get]

theorem viewBytes_setByte (s : State) {j : Nat} (b : Byte) :
    viewBytes (s.setByte (s.addr.toNat + j) b) = (viewBytes s).set j b := by
  refine List.ext_getElem (by simp) fun i _ _ => ?_
  simp only [viewBytes, List.getElem_map, List.getElem_range, List.getElem_set, State.bufByte_setByte, State.setByte_addr,
    Nat.add_left_cancel_iff, eq_comm]

/-! ## The commands -/

/-- A command on a view that passes the range check (20_memory.md R65). -/
theorem exec_of_view {i : Instr} {s : State} {g : State → View → State} (hrule : ruleOf i = fun s => withView s (g s))
    (h : inRange s) : exec i s = .next (g (s.beginCommand (encode i)) s.inputView) := by
  rw [exec_eq_command]
  refine command_ok ?_
  rw [hrule, ← State.beginCommand_inputView s (encode i)]
  exact withView_inside (s := s.beginCommand (encode i)) h _

/-- Any other view ends with RANGE. -/
theorem exec_of_view_outside {i : Instr} {s : State} (hi : i ∈ viewCommands) (hfd : i ≠ .fdPacket) (h : ¬inRange s) :
    exec i s = .next (failed s (encode i) .range) := by
  have hout : s.params.bufSize < s.addr.toNat + s.len.toNat := Nat.lt_of_not_le h
  have hother : ∀ i ∈ viewCommands, i ≠ .fdPacket → i ∉ brReads ∧ i ≠ .brBits ∧ i ∉ fdConfigs := by decide
  obtain ⟨hbr, hbits, hcfg⟩ := hother i hi hfd
  exact exec_failed (by simp [errorOf, hbr, hbits, hcfg, hfd, hi, hout])

/-- A CRC as RES0 holds it. -/
theorem crc_setWidth (c : Word) : (c.setWidth 64 : DWord) = BitVec.ofNat 64 c.toNat := (BitVec.ofNat_toNat 64 c).symm

/-- CRC_CHECK and CRC_CHECK.ACC. -/
def crcCheckOf (acc : Bool) : Instr := if acc then .crcCheckAcc else .crcCheck

/-- The seed of the check (42_crc.md R134). -/
def checkSeed (acc : Bool) (s : State) : Word := if acc then s.crc else crcSeed

/-- The checks on a view in range, whole. -/
theorem exec_crcCheckOf (acc : Bool) {s : State} (h : inRange s) :
    exec (crcCheckOf acc) s =
      .next { answered s (crcCheckOf acc) (crc32Update (checkSeed acc s) (viewBytes s) == 0) with
        res0 := BitVec.ofNat 64 (crc32Update (checkSeed acc s) (viewBytes s)).toNat } := by
  have hrule : ruleOf (crcCheckOf acc) = crcCheckRule acc := by cases acc <;> rfl
  rw [exec_of_view hrule h, State.inputView_bytes, ← crc_setWidth]
  rfl

theorem exec_crcUpdate {s : State} (h : inRange s) :
    exec .crcUpdate s =
      .next { answered s .crcUpdate (crc32Update s.crc (viewBytes s) == 0) with
        crc := crc32Update s.crc (viewBytes s)
        res0 := BitVec.ofNat 64 (crc32Update s.crc (viewBytes s)).toNat } := by
  have hrule : ruleOf .crcUpdate = crcUpdateRule := rfl
  rw [exec_of_view hrule h, ← crc_setWidth, ← State.inputView_bytes]
  rfl

theorem exec_crcInit (s : State) :
    exec .crcInit s = .next { answered s .crcInit true with crc := 0xFFFFFFFF#32, res0 := 0xFFFFFFFF#64 } :=
  (exec_eq_command .crcInit s).trans (command_ok rfl)

/-- The seed is the low half of OPA (42_crc.md R132). -/
theorem exec_crcSeed (s : State) :
    exec .crcSeed s =
      .next { answered s .crcSeed true with
        crc := BitVec.ofNat 32 s.opa.toNat, res0 := BitVec.ofNat 64 (s.opa.toNat % 2 ^ 32) } := by
  have hcrc : s.seedOperand = BitVec.ofNat 32 s.opa.toNat := (BitVec.ofNat_toNat 32 s.opa).symm
  have hres : (s.seedOperand.setWidth 64 : DWord) = BitVec.ofNat 64 (s.opa.toNat % 2 ^ 32) := by
    rw [crc_setWidth, State.seedOperand, BitVec.toNat_setWidth]
  rw [exec_eq_command, ← hcrc, ← hres]
  exact command_ok rfl

/-! ## CRC_APPEND -/

/-- The state CRC_APPEND leaves (42_crc.md R135). -/
def appended (s : State) : State :=
  { answered s .crcAppend true with
    res0 := BitVec.ofNat 64 (viewCrc s).toNat, mem := (s.memWrite s.viewEnd 4 (viewCrc s).toNat).mem }

theorem exec_crcAppend {s : State} (h : s.viewEnd + 4 ≤ s.params.bufSize) : exec .crcAppend s = .next (appended s) := by
  have hbytes : (s.beginCommand (encode .crcAppend)).inputView.bytes = viewBytes s := by simp
  rw [exec_eq_command]
  refine command_ok ((if_neg (Nat.not_lt.mpr h)).trans ?_)
  simp only [hbytes, State.beginCommand_viewEnd, State.memWrite]
  rw [State.setBytes_eq, appended, ← crc_setWidth]
  rfl

theorem appended_bufByte (s : State) (a : Nat) :
    (appended s).bufByte a =
      if s.viewEnd ≤ a ∧ a < s.viewEnd + 4 then (crcTail (viewCrc s)).getD (a - s.viewEnd) 0 else s.bufByte a := by
  have hmem : (appended s).bufByte a = (s.memWrite s.viewEnd 4 (viewCrc s).toNat).bufByte a := by
    rw [State.bufByte, State.bufByte, State.memWrite, State.setBytes_powerCycle]
    rfl
  rw [hmem, State.bufByte_memWrite]
  split_ifs with ha
  · have hi : a - s.viewEnd < 4 := by omega
    simp [crcTail, hi, Nat.pow_mul]
  · rfl

theorem appended_bufByte_view (s : State) {i : Nat} (hi : i < s.len.toNat) :
    (appended s).bufByte (s.addr.toNat + i) = s.bufByte (s.addr.toNat + i) := by
  rw [appended_bufByte, if_neg (by unfold State.viewEnd; omega)]

theorem appended_bufByte_tail (s : State) {i : Nat} (hi : i < 4) :
    (appended s).bufByte (s.addr.toNat + (s.len.toNat + i)) = BitVec.ofNat 8 ((viewCrc s).toNat / 256 ^ (3 - i)) := by
  have hoff : s.addr.toNat + (s.len.toNat + i) - s.viewEnd = i := by unfold State.viewEnd; omega
  rw [appended_bufByte, if_pos (by unfold State.viewEnd; omega), hoff]
  simp [crcTail, hi]

/-- The state CRC_APPEND leaves, its input view lengthened by the CRC. -/
def appendedView (s : State) : State := { appended s with len := s.len + 4 }

theorem appendedView_len {s : State} (h : s.len.toNat + 4 < 2 ^ 32) : (appendedView s).len.toNat = s.len.toNat + 4 :=
  (BitVec.toNat_add s.len 4).trans (Nat.mod_eq_of_lt h)

theorem viewBytes_appendedView {s : State} (h : s.len.toNat + 4 < 2 ^ 32) :
    viewBytes (appendedView s) = viewBytes s ++ crcTail (viewCrc s) := by
  calc viewBytes (appendedView s)
      = (List.range (s.len.toNat + 4)).map fun i => (appended s).bufByte (s.addr.toNat + i) := by
        rw [← appendedView_len h]
        rfl
    _ = viewBytes s ++ crcTail (viewCrc s) := by
        rw [List.range_add, List.map_append, List.map_map]
        exact congrArg₂ _ (List.map_congr_left fun i hi => appended_bufByte_view s (List.mem_range.mp hi))
          (List.map_congr_left fun i hi => appended_bufByte_tail s (List.mem_range.mp hi))

theorem byteAt_appendedView {s : State} (h : s.len.toNat + 4 < 2 ^ 32) {i : Nat} (hi : i < s.len.toNat) :
    byteAt (appendedView s) i = byteAt s i := by
  rw [byteAt_eq, byteAt_eq, viewBytes_appendedView h, List.getD_append _ _ _ _ (by simpa using hi)]

/-- The view with its CRC has the residue 0 (42_crc.md R137). -/
theorem crc_appendedView {s : State} (h : s.len.toNat + 4 < 2 ^ 32) :
    crc32Update 0xFFFFFFFF#32 (viewBytes (appendedView s)) = 0 := by
  rw [viewBytes_appendedView h, crc32Update_append]
  exact crc32Update_crcTail (viewCrc s)

/-! ## SECT_CHECK -/

theorem sectionLength_inputView (s : State) : sectionLength s.inputView = sectLen s := by
  rw [sectionLength, shiftLeft_or_byte, State.inputView_get_toNat, State.inputView_get_toNat, sectLen,
    Nat.and_two_pow_sub_one_eq_mod _ 4]
  rfl

theorem sectInfo_eq_shiftLeft (s : State) : sectInfo s = (sectLen s * 2 ^ 8 + byteAt s 0) <<< 32 := by
  rw [sectInfo, Nat.shiftLeft_eq]
  ring

theorem sectInfo_eq_or (s : State) : sectLen s <<< 40 ||| (s.inputView.get 0).toNat <<< 32 = sectInfo s := by
  rw [sectInfo_eq_shiftLeft, ← State.inputView_get_toNat, ← shiftLeft_or_byte, Nat.shiftLeft_or_distrib,
    ← Nat.shiftLeft_add]

theorem sectInfo_or_crc (s : State) (c : Word) : sectInfo s ||| c.toNat = sectInfo s + c.toNat := by
  rw [sectInfo_eq_shiftLeft, Nat.shiftLeft_add_eq_or_of_lt c.isLt]

/-- The CRC of the section at the start of the view. -/
def sectCrc (s : State) : Word := crc32Update 0xFFFFFFFF#32 ((viewBytes s).take (3 + sectLen s))

/-- SECT_CHECK on a view in range, by the cases of 42_crc.md R136 in its order. -/
theorem exec_sectCheck {s : State} (h : inRange s) :
    exec .sectCheck s =
      .next (if s.len.toNat < 3 then { answeredNeedMore s .sectCheck with res0 := 0, res1 := 0 }
        else if s.len.toNat < 3 + sectLen s then
          { answeredNeedMore s .sectCheck with res0 := 0, res1 := BitVec.ofNat 64 (sectInfo s) }
        else if sectLen s < 4 then
          { answeredMalformed s .sectCheck with res0 := 0, res1 := BitVec.ofNat 64 (sectInfo s) }
        else
          { answered s .sectCheck (sectCrc s == 0) with
            res0 := if sectCrc s = 0 then BitVec.ofNat 64 (3 + sectLen s) else 0
            res1 := BitVec.ofNat 64 (sectInfo s + (sectCrc s).toNat) }) := by
  have hrule : ruleOf .sectCheck = fun s => withView s fun V => sectCheck V s := rfl
  rw [exec_of_view hrule h, sectCheck]
  simp only [State.inputView_len, State.inputView_bytes, sectionLength_inputView, sectInfo_eq_or, sectInfo_or_crc]
  rfl

/-- A section inside the view whose CRC comes to 0 is valid, with its total length in RES0. -/
theorem exec_sectCheck_valid {s : State} (h : inRange s) (hlen : 3 + sectLen s ≤ s.len.toNat) (h4 : 4 ≤ sectLen s)
    (hcrc : sectCrc s = 0) :
    ∃ u, exec .sectCheck s = .next u ∧ u.status.valid = true ∧ u.res0 = BitVec.ofNat 64 (3 + sectLen s) := by
  refine ⟨_, exec_sectCheck h, ?_⟩
  rw [if_neg (by omega), if_neg (by omega), if_neg (by omega), hcrc]
  exact ⟨rfl, rfl⟩

end Sys2Proof.Machine

namespace Sys2Proof.Proofs

open Sys2Proof.Machine Sys2Proof.Claims

/-- Settles O34: after a sequence each byte of its CRC takes itself out, and CRC_APPEND leaves just these bytes after the
view. -/
theorem appendedSectionPasses : Obligations.AppendedSectionPasses := by
  refine ⟨fun D => by rw [crc32Update_append, crc32Update_crcTail]; rfl, fun s t hp hb ht => ?_⟩
  obtain rfl := Host.Outcome.next.inj ((exec_crcAppend hb).symm.trans ht)
  have hlen : s.len.toNat + 4 < 2 ^ 32 := by
    have := Params.bufSize_le hp
    omega
  have hview := appendedView_len hlen
  have hin : inRange (appendedView s) :=
    (by omega : s.addr.toNat + (appendedView s).len.toNat ≤ s.params.bufSize)
  refine ⟨⟨_, exec_crcCheckOf false hin, ?_, ?_⟩, fun h3 hsect => ?_⟩
  · exact beq_iff_eq.mpr (crc_appendedView hlen)
  · exact congrArg (fun c : Word => BitVec.ofNat 64 c.toNat) (crc_appendedView hlen)
  · have hsect' : sectLen (appendedView s) = s.len.toNat + 1 := by
      rw [sectLen, byteAt_appendedView hlen (by omega), byteAt_appendedView hlen (by omega), ← sectLen, hsect]
    have hcrc : sectCrc (appendedView s) = 0 := by
      rw [sectCrc, List.take_of_length_le (by simp; omega), crc_appendedView hlen]
    have hvalid := exec_sectCheck_valid hin (by omega) (by omega) hcrc
    rwa [hsect', show 3 + (s.len.toNat + 1) = s.len.toNat + 4 by omega] at hvalid

/-- Settles O35: a flipped bit changes one byte, and a changed byte changes the CRC from 0 to something else. -/
theorem singleBitErrorDetected : Obligations.SingleBitErrorDetected := by
  intro s t i j k hi hin hj hk ht hvalid
  obtain ⟨acc, rfl⟩ : ∃ acc, i = crcCheckOf acc := by
    rcases hi with rfl | rfl
    · exact ⟨false, rfl⟩
    · exact ⟨true, rfl⟩
  rw [exec_crcCheckOf acc hin] at ht
  obtain rfl := Host.Outcome.next.inj ht
  have hzero : crc32Update (checkSeed acc s) (viewBytes s) = 0 := beq_iff_eq.mp hvalid
  have hflip : 1#8 <<< k ≠ 0 := by
    have hall : ∀ k : Fin 8, 1#8 <<< k.val ≠ 0 := by decide
    exact hall ⟨k, hk⟩
  have hbyte : (viewBytes s)[j]'(by simpa using hj) = s.bufByte (s.addr.toNat + j) := by simp [viewBytes]
  refine ⟨_, exec_crcCheckOf acc hin, beq_eq_false_iff_ne.mpr ?_⟩
  rw [viewBytes_setByte, ← hbyte, ← hzero]
  exact crc32Update_set_ne _ _ hflip

/-- Settles O30: a round on numbers; the table entry is chosen by the byte and the CRC's top byte. -/
theorem crcFunction : Obligations.CrcFunction := by
  refine ⟨fun c => rfl, fun c d D => rfl, fun c d => ?_, crcByte_table, by decide +kernel⟩
  rw [crc32Update_singleton, crcByte_eq, crcBits_toNat, BitVec.toNat_xor, topByte_toNat]

/-- Settles O31: each rule's state is the one claimed, and the range check is the only cause of an error. -/
theorem crcRegisterCommands : Obligations.CrcRegisterCommands := by
  refine ⟨fun s => ⟨exec_crcInit s, exec_crcSeed s, fun hin => ⟨?_, exec_crcCheckOf false hin⟩, fun hout i hi => ?_⟩,
    fun c A B => (crc32Update_append c A B).symm⟩
  · rintro c rfl
    exact ⟨exec_crcUpdate hin, exec_crcCheckOf true hin⟩
  · have hview : ∀ i ∈ [Instr.crcUpdate, .crcCheck, .crcCheckAcc], i ∈ viewCommands ∧ i ≠ .fdPacket := by decide
    exact exec_of_view_outside (hview i hi).1 (hview i hi).2 hout

/-- Settles O32: `appended` is the state, and the run of bytes MemWrite stores is the CRC's (`appended_bufByte`). -/
theorem crcAppendWritesBigEndian : Obligations.CrcAppendWritesBigEndian := fun s =>
  ⟨fun h => ⟨appended s, exec_crcAppend h, rfl, appended_bufByte s⟩, fun h =>
    exec_failed (by simp [errorOf, brReads, fdConfigs, viewCommands, h])⟩

/-- Settles O33: the cases of `exec_sectCheck`. -/
theorem sectCheckCases : Obligations.SectCheckCases := by
  refine fun s => ⟨fun hin => ?_, exec_of_view_outside (by decide) (by decide)⟩
  rw [exec_sectCheck hin]
  refine ⟨fun h => ?_, fun h3 h => ?_, fun h hshort => ?_, ?_⟩
  · rw [if_pos h]
  · rw [if_neg (by omega), if_pos h]
  · rw [if_neg (by omega), if_neg (by omega), if_pos hshort]
  · rintro h hlong c rfl
    rw [if_neg (by omega), if_neg (by omega), if_neg (by omega)]
    rfl

end Sys2Proof.Proofs
end

section
/-! Timestamps in PES headers and TS packets (43_ts_pes.md R154, R156 to R163): the five bytes as a number and back, a run of
bytes written in the input view, and the packet the scan finds before and after a write. -/

namespace Sys2Proof.Machine

open Sys2Proof.Claims

/-! ## Fields in numbers -/

/-- A field over bits that are all 0 adds its value. -/
theorem or_eq_add_of_dvd {n a b : Nat} (ha : 2 ^ n ∣ a) (hb : b < 2 ^ n) : a ||| b = a + b := by
  obtain ⟨k, rfl⟩ := ha
  exact (Nat.two_pow_add_eq_or_of_lt hb k).symm

/-- A field above every bit of a number adds its value at its place. -/
theorem or_shiftLeft_eq_add {n k : Nat} (hk : k < 2 ^ n) (a : Nat) : k ||| a <<< n = k + 2 ^ n * a := by
  rw [Nat.or_comm, Nat.shiftLeft_eq, Nat.mul_comm, or_eq_add_of_dvd ⟨a, rfl⟩ hk, Nat.add_comm]

/-- A mask of `n` bits from bit `lo` on keeps that field and no other. -/
theorem and_mask (x lo n : Nat) : x &&& (2 ^ n - 1) <<< lo = x / 2 ^ lo % 2 ^ n * 2 ^ lo := by
  rw [← Nat.shiftLeft_eq, ← Nat.shiftRight_eq_div_pow, ← Nat.and_two_pow_sub_one_eq_mod, Nat.shiftLeft_and_distrib]
  refine Nat.eq_of_testBit_eq fun i => ?_
  simp only [Nat.testBit_and, Nat.testBit_shiftLeft, Nat.testBit_shiftRight]
  by_cases h : lo ≤ i <;> simp [h]

/-- The mask of the three bits of a first timestamp byte (43_ts_pes.md R160, R161). -/
theorem and_0E_toNat (b : Byte) : (b &&& 0x0E).toNat = b.toNat / 2 % 8 * 2 := and_mask b.toNat 1 3

/-- The mask that leaves out the marker bit of a timestamp byte (43_ts_pes.md R160, R161). -/
theorem and_FE_toNat (b : Byte) : (b &&& 0xFE).toNat = b.toNat / 2 % 128 * 2 := and_mask b.toNat 1 7

/-- The mask of the bits that a first timestamp byte keeps (43_ts_pes.md R161). -/
theorem and_F1_toNat (b : Byte) : (b &&& 0xF1).toNat = b.toNat / 16 * 16 ||| b.toNat % 2 := by
  have hhigh : b.toNat &&& 0xF0 = b.toNat / 16 % 16 * 16 := and_mask b.toNat 4 4
  have hlow : b.toNat &&& 1 = b.toNat % 2 := Nat.and_two_pow_sub_one_eq_mod _ 1
  have hlt : b.toNat / 16 < 16 := Nat.div_lt_of_lt_mul b.isLt
  calc (b &&& 0xF1).toNat
      = b.toNat &&& 0xF0 ||| b.toNat &&& 1 := Nat.and_or_distrib_left b.toNat 0xF0 1
    _ = b.toNat / 16 * 16 ||| b.toNat % 2 := by rw [hhigh, hlow, Nat.mod_eq_of_lt hlt]

/-- The 33 bits of a timestamp, byte by byte (43_ts_pes.md R160). -/
theorem tsDecode_toNat (b0 b1 b2 b3 b4 : Byte) :
    (tsDecode b0 b1 b2 b3 b4).toNat =
      b0.toNat / 2 % 8 * 2 ^ 30 + b1.toNat * 2 ^ 22 + b2.toNat / 2 * 2 ^ 15 + b3.toNat * 2 ^ 7 + b4.toNat / 2 := by
  have h0 := b0.isLt
  have h1 := b1.isLt
  have h2 := b2.isLt
  have h3 := b3.isLt
  have h4 := b4.isLt
  simp only [tsDecode, BitVec.toNat_or, BitVec.toNat_shiftLeft, BitVec.toNat_ushiftRight, BitVec.toNat_setWidth, and_0E_toNat,
    and_FE_toNat, Nat.shiftLeft_eq, Nat.shiftRight_eq_div_pow, Nat.or_assoc]
  rw [or_eq_add_of_dvd (n := 7) (a := _ * 2 ^ 7 % 2 ^ 33) (by omega) (by omega),
    or_eq_add_of_dvd (n := 15) (a := _ * 2 ^ 14 % 2 ^ 33) (by omega) (by omega),
    or_eq_add_of_dvd (n := 22) (a := _ * 2 ^ 22 % 2 ^ 33) (by omega) (by omega),
    or_eq_add_of_dvd (n := 30) (by omega) (by omega)]
  omega

/-- The five bytes of a timestamp (43_ts_pes.md R161). -/
theorem tsEncode_getD (v : Stamp) (old : Byte) {j : Nat} (hj : j < 5) :
    (tsEncode v old).getD j 0 = BitVec.ofNat 8 (stampByte v.toNat old.toNat j) := by
  have hv := v.isLt
  have hold := old.isLt
  have hone : (0x01 : Byte).toNat = 1 := rfl
  rw [← BitVec.toNat_inj, BitVec.toNat_ofNat]
  interval_cases j <;>
    simp only [tsEncode, stampByte, List.getD_cons_zero, List.getD_cons_succ, BitVec.toNat_or, and_0E_toNat, and_FE_toNat,
      and_F1_toNat, hone, BitVec.toNat_setWidth, BitVec.toNat_shiftLeft, BitVec.toNat_ushiftRight, Nat.shiftLeft_eq,
      Nat.shiftRight_eq_div_pow]
  · rw [Nat.or_left_comm, or_eq_add_of_dvd (n := 1) (b := old.toNat % 2) (by omega) (by omega),
      or_eq_add_of_dvd (n := 4) (by omega) (by omega)]
    omega
  · omega
  · rw [or_eq_add_of_dvd (n := 1) (by omega) (by omega)]
    omega
  · omega
  · rw [or_eq_add_of_dvd (n := 1) (by omega) (by omega)]
    omega

/-! ## The input view in numbers -/

theorem State.inputView_get_eq (s : State) (i : Nat) : s.inputView.get i = BitVec.ofNat 8 (byteAt s i) := by
  rw [← State.inputView_get_toNat, BitVec.ofNat_toNat, BitVec.setWidth_eq]

/-- The PES header of packet `k` reads the input view from the packet's payload on (43_ts_pes.md R162). -/
theorem pesOf_packetAt_get (s : State) (k : Nat) {i : Nat} (hi : i < (pesOf (packetAt s.inputView k)).len) :
    (pesOf (packetAt s.inputView k)).get i = BitVec.ofNat 8 (byteAt s (k * 188 + offAt s (k * 188) + i)) := by
  rw [pesOf_get _ hi, tsFields_off, packetAt_get, State.inputView_get_eq, Nat.add_assoc]
  rw [pesOf_len, tsFields_off, packetAt_len] at hi
  omega

theorem pesOf_packetAt_len (s : State) (k : Nat) :
    (pesOf (packetAt s.inputView k)).len = min 188 (s.len.toNat - k * 188) - offAt s (k * 188) := by
  rw [pesOf_len, tsFields_off, packetAt_len, State.inputView_len]

theorem byteAt_lt (s : State) (i : Nat) : byteAt s i < 256 := by
  rw [← State.inputView_get_toNat]
  exact (s.inputView.get i).isLt

theorem ofNat_byteAt_toNat (s : State) (i : Nat) : (BitVec.ofNat 8 (byteAt s i)).toNat = byteAt s i :=
  Nat.mod_eq_of_lt (byteAt_lt s i)

theorem hasTs_inputView (s : State) (sel : TsSel) : hasTs s.inputView sel = true ↔ hasStamp s sel 0 s.len.toNat := by
  rw [hasTs_iff (s := s) (b := 0) (fun i _ => by rw [State.inputView_get_toNat, Nat.zero_add]), State.inputView_len]

/-- A timestamp field of a header that reads the input view from `b` on (43_ts_pes.md R156). -/
theorem View.stampAt_eq {Q : View} {s : State} {b p : Nat}
    (hget : ∀ i < Q.len, Q.get i = BitVec.ofNat 8 (byteAt s (b + i))) (hp : p + 5 ≤ Q.len) :
    ((Q.stampAt p).setWidth 64 : DWord) = BitVec.ofNat 64 (Claims.stampAt s (b + p)) := by
  rw [← BitVec.ofNat_toNat, View.stampAt, tsDecode_toNat]
  iterate 5 rw [hget _ (by omega), ofNat_byteAt_toNat]
  rfl

/-- A header has a timestamp only if it has room for it (43_ts_pes.md R154). -/
theorem hasStamp_len {s : State} {sel : TsSel} {b n : Nat} (h : hasStamp s sel b n) : stampPos sel + 5 ≤ n := by
  cases sel with
  | pts =>
    obtain ⟨-, -, hlen⟩ := h
    exact hlen
  | dts =>
    obtain ⟨-, -, hlen⟩ := h
    exact hlen

theorem stampA_setWidth (s : State) : (s.stampA.setWidth 64 : DWord) = BitVec.ofNat 64 (s.opa.toNat % 2 ^ 33) := by
  rw [← BitVec.ofNat_toNat, State.stampA, BitVec.toNat_setWidth]

/-! ## A run of bytes written in the input view -/

/-- `t` has the input view of `s` and its buffer, but for the `n` view bytes from `p` on, which hold the numbers `f`. -/
structure WritesView (s t : State) (p n : Nat) (f : Nat → Nat) : Prop where
  params : t.params = s.params
  addr : t.addr = s.addr
  len : t.len = s.len
  inside : p + n ≤ s.len.toNat
  buf : ∀ a, t.bufByte a =
    if s.addr.toNat + p ≤ a ∧ a < s.addr.toNat + p + n then BitVec.ofNat 8 (f (a - (s.addr.toNat + p))) else s.bufByte a

namespace WritesView

variable {s t : State} {p n : Nat} {f : Nat → Nat}

theorem inRange_iff (h : WritesView s t p n f) : inRange t ↔ inRange s := by
  rw [inRange, inRange, h.params, h.addr, h.len]

theorem byteAt_at (h : WritesView s t p n f) {j : Nat} (hj : j < n) : byteAt t (p + j) = f j % 256 := by
  have hin := h.inside
  rw [Claims.byteAt, h.len, h.addr, if_pos (by omega), h.buf, if_pos (by omega), ← Nat.add_assoc, Nat.add_sub_cancel_left,
    BitVec.toNat_ofNat]

theorem byteAt_other (h : WritesView s t p n f) {i : Nat} (hi : i < p ∨ p + n ≤ i) : byteAt t i = byteAt s i := by
  have hbuf : t.bufByte (s.addr.toNat + i) = s.bufByte (s.addr.toNat + i) := (h.buf _).trans (if_neg (by omega))
  rw [Claims.byteAt, Claims.byteAt, h.len, h.addr, hbuf]

end WritesView

/-- The state a command leaves that writes `bs` in the view from `p` on. -/
def wrote (s : State) (i : Instr) (p : Nat) (bs : List Byte) (res0 res1 : DWord) : State :=
  { answered s i true with res0 := res0, res1 := res1, mem := (s.setBytes (s.addr.toNat + p) bs).mem }

theorem State.beginCommand_setBytes (s : State) (w : Word) (a : Nat) (bs : List Byte) :
    (s.beginCommand w).setBytes a bs = (s.setBytes a bs).beginCommand w := by
  induction bs generalizing s a with
  | nil => rfl
  | cons b bs ih => exact ih (s.setByte a b) (a + 1)

/-- The write as the rules state it, after the cycle's start. -/
theorem wrote_eq (s : State) (i : Instr) (p : Nat) (bs : List Byte) (res0 res1 : DWord) :
    { ((s.beginCommand (encode i)).setBytes (s.addr.toNat + p) bs).reportValid true with res0 := res0, res1 := res1 } =
      wrote s i p bs res0 res1 := by
  rw [State.beginCommand_setBytes, State.setBytes_eq]
  rfl

theorem wrote_bufByte (s : State) (i : Instr) (p : Nat) (bs : List Byte) (res0 res1 : DWord) (a : Nat) :
    (wrote s i p bs res0 res1).bufByte a =
      if s.addr.toNat + p ≤ a ∧ a < s.addr.toNat + p + bs.length then bs.getD (a - (s.addr.toNat + p)) 0
      else s.bufByte a := by
  rw [← State.bufByte_setBytes, State.bufByte, State.bufByte, State.setBytes_powerCycle]
  rfl

theorem wrote_writesView {s : State} {p n : Nat} {bs : List Byte} {f : Nat → Nat} (hlen : bs.length = n)
    (hbs : ∀ j < n, bs.getD j 0 = BitVec.ofNat 8 (f j)) (hp : p + n ≤ s.len.toNat) (i : Instr) (res0 res1 : DWord) :
    WritesView s (wrote s i p bs res0 res1) p n f where
  params := rfl
  addr := rfl
  len := rfl
  inside := hp
  buf a := by
    rw [wrote_bufByte, hlen]
    split_ifs with ha
    · exact hbs _ (by omega)
    · rfl

/-- The state a command leaves that writes the timestamp OPA mod 2^33 in the view from `p` on (43_ts_pes.md R157, R159). -/
def stamped (s : State) (i : Instr) (p : Nat) (res1 : DWord) : State :=
  wrote s i p (tsEncode s.stampA (BitVec.ofNat 8 (byteAt s p))) (BitVec.ofNat 64 (s.opa.toNat % 2 ^ 33)) res1

theorem stamped_writesView {s : State} {p : Nat} (hp : p + 5 ≤ s.len.toNat) (i : Instr) (res1 : DWord) :
    WritesView s (stamped s i p res1) p 5 (stampByte (s.opa.toNat % 2 ^ 33) (byteAt s p)) := by
  refine wrote_writesView rfl (fun j hj => ?_) hp i _ res1
  rw [tsEncode_getD _ _ hj, ofNat_byteAt_toNat, State.stampA, BitVec.toNat_setWidth]

/-- The field written, read again, is the timestamp (43_ts_pes.md R163). -/
theorem stampAt_stamped {s : State} {p : Nat} (hp : p + 5 ≤ s.len.toNat) (i : Instr) (res1 : DWord) :
    stampAt (stamped s i p res1) p = s.opa.toNat % 2 ^ 33 := by
  have hw := stamped_writesView hp i res1
  have h0 : byteAt (stamped s i p res1) p = _ := hw.byteAt_at (j := 0) (by omega)
  rw [stampAt, h0, hw.byteAt_at (by omega), hw.byteAt_at (by omega), hw.byteAt_at (by omega), hw.byteAt_at (by omega)]
  simp only [stampByte]
  omega

/-! ## TS_FIND_TS and TS_SET_TS -/

theorem ruleOf_tsFind (sel : TsSel) : ruleOf (tsFind sel) = tsFindTsRule sel := by
  cases sel <;> rfl

/-- A scan that finds nothing has passed over every packet it had fuel for (43_ts_pes.md R162). -/
theorem scanTsFrom_none {V : View} {sel : TsSel} {fuel k : Nat} (h : scanTsFrom V sel fuel k = none) {j : Nat} (hk : k ≤ j)
    (hj : j < k + fuel) (hlen : j * 188 < V.len) : carriesTs (packetAt V j) sel = false := by
  induction fuel generalizing k with
  | zero => omega
  | succ fuel ih =>
    unfold scanTsFrom at h
    rw [if_pos (by omega)] at h
    split_ifs at h with hc
    rcases Nat.eq_or_lt_of_le hk with rfl | hlt
    · simpa using hc
    · exact ih h hlt (by omega)

theorem scanTs_none {s : State} {sel : TsSel} (h : scanTs s.inputView sel = none) (k : Nat) : ¬carrier s sel k := by
  rw [carrier_iff]
  rintro ⟨hlen, hc⟩
  rw [scanTsFrom_none h (Nat.zero_le k) (by rw [State.inputView_len]; omega) (by rwa [State.inputView_len])] at hc
  exact Bool.false_ne_true hc

theorem firstCarrier_unique {s : State} {sel : TsSel} {k n : Nat} (hk : firstCarrier s sel k) (hn : firstCarrier s sel n) :
    k = n := by
  rcases Nat.lt_trichotomy k n with h | h | h
  · exact absurd hk.1 (hn.2 k h)
  · exact h
  · exact absurd hn.1 (hk.2 n h)

/-- The scan of the input view finds the first carrier where there is one. -/
theorem scanTs_of_firstCarrier {s : State} {sel : TsSel} {k : Nat} (hk : firstCarrier s sel k) :
    scanTs s.inputView sel = some (k, pesOf (packetAt s.inputView k)) := by
  cases hscan : scanTs s.inputView sel with
  | none => exact absurd hk.1 (scanTs_none hscan k)
  | some found =>
    obtain ⟨n, Q⟩ := found
    obtain ⟨-, rfl, -⟩ := scanTsFrom_some hscan
    rw [firstCarrier_unique hk (scanTs_firstCarrier hscan).1]

theorem scanTs_of_no_carrier {s : State} {sel : TsSel} (h : ∀ k, ¬carrier s sel k) : scanTs s.inputView sel = none := by
  cases hscan : scanTs s.inputView sel with
  | none => rfl
  | some found => exact absurd (scanTs_firstCarrier hscan).1.1 (h _)

theorem exists_firstCarrier {s : State} {sel : TsSel} (h : ∃ k, carrier s sel k) : ∃ k, firstCarrier s sel k := by
  classical
  exact ⟨Nat.find h, Nat.find_spec h, fun _ => Nat.find_min h⟩

/-- The timestamp of a carrier lies inside its clipped packet (43_ts_pes.md R154, R162). -/
theorem carrier_fits {s : State} {sel : TsSel} {k : Nat} (h : carrier s sel k) :
    offAt s (k * 188) + (stampPos sel + 5) ≤ min 188 (s.len.toNat - k * 188) := by
  obtain ⟨-, -, -, -, hstamp⟩ := h
  have hlen := hasStamp_len hstamp
  omega

/-- The timestamp of a carrier lies inside the view (43_ts_pes.md R159). -/
theorem carrier_inside {s : State} {sel : TsSel} {k : Nat} (h : carrier s sel k) :
    k * 188 + offAt s (k * 188) + stampPos sel + 5 ≤ s.len.toNat := by
  have hfits := carrier_fits h
  omega

/-- The timestamp of a carrier lies inside the PES header the scan finds. -/
theorem carrier_inside_pesOf {s : State} {sel : TsSel} {k : Nat} (h : carrier s sel k) :
    stampPos sel + 5 ≤ (pesOf (packetAt s.inputView k)).len := by
  rw [pesOf_packetAt_len]
  have hfits := carrier_fits h
  omega

/-- TS_FIND_TS where a packet carries the timestamp. -/
theorem exec_tsFind {s : State} {sel : TsSel} {k : Nat} (h : inRange s) (hk : firstCarrier s sel k) :
    exec (tsFind sel) s =
      .next { answered s (tsFind sel) true with
        res0 := BitVec.ofNat 64 (stampAt s (k * 188 + offAt s (k * 188) + stampPos sel))
        res1 := BitVec.ofNat 64 (k * 188) } := by
  rw [exec_of_view (ruleOf_tsFind sel) h,
    ← View.stampAt_eq (fun i => pesOf_packetAt_get s k) (carrier_inside_pesOf hk.1), stampPos_eq]
  simp only [scanTs_of_firstCarrier hk]
  rfl

/-- TS_SET_TS where a packet carries the timestamp. -/
theorem exec_tsSet {s : State} {sel : TsSel} {k : Nat} (h : inRange s) (hk : firstCarrier s sel k) :
    exec (tsSet sel) s =
      .next (stamped s (tsSet sel) (k * 188 + offAt s (k * 188) + stampPos sel) (BitVec.ofNat 64 (k * 188))) := by
  have hscan := scanTs_of_firstCarrier hk
  have hinside := carrier_inside_pesOf hk.1
  have haddr : s.addr.toNat + (k * 188 + offAt s (k * 188)) + stampPos sel =
      s.addr.toNat + (k * 188 + offAt s (k * 188) + stampPos sel) := Nat.add_assoc _ _ _
  rw [exec_of_view (ruleOf_tsSet sel) h]
  simp only [hscan, (scanTs_firstCarrier hscan).2, ← stampPos_eq, pesOf_packetAt_get s k (by omega : stampPos sel < _), haddr]
  rw [stamped, ← wrote_eq, ← stampA_setWidth]
  rfl

theorem exec_tsSet_none {s : State} {sel : TsSel} (h : inRange s) (hnone : ∀ k, ¬carrier s sel k) :
    exec (tsSet sel) s = .next { answered s (tsSet sel) false with res0 := allOnes, res1 := allOnes } := by
  rw [exec_of_view (ruleOf_tsSet sel) h]
  simp only [scanTs_of_no_carrier hnone]
  rfl

theorem exec_tsSet_outside {s : State} (sel : TsSel) (h : ¬inRange s) :
    exec (tsSet sel) s = .next (failed s (encode (tsSet sel)) .range) :=
  exec_of_view_outside (by cases sel <;> decide) (by cases sel <;> decide) h

/-! ## The scan of a view after TS_SET_TS has written in it -/

/-- A header has the timestamp by its bytes 7 and 8, which lie in it if it has room for one (43_ts_pes.md R154). -/
theorem hasStamp_congr {s t : State} {sel : TsSel} {b n : Nat}
    (h : 14 ≤ n → ∀ i < 9, byteAt t (b + i) = byteAt s (b + i)) : hasStamp t sel b n ↔ hasStamp s sel b n := by
  by_cases hn : 14 ≤ n
  · cases sel <;> simp only [hasStamp, h hn 7 (by omega), h hn 8 (by omega)]
  · cases sel <;> simp only [hasStamp] <;> omega

theorem offAt_congr {s t : State} {b : Nat} (h : ∀ i < 5, byteAt t (b + i) = byteAt s (b + i)) : offAt t b = offAt s b := by
  rw [offAt, offAt, adaptAt, adaptAt, h 3 (by omega), h 4 (by omega)]

/-- A packet is a carrier by its header and by the first nine bytes of the PES header in it (43_ts_pes.md R162). -/
theorem carrier_congr {s t : State} {sel : TsSel} {k : Nat} (hlen : t.len = s.len)
    (hhead : ∀ i < 5, byteAt t (k * 188 + i) = byteAt s (k * 188 + i))
    (hpes : offAt s (k * 188) + 14 ≤ 188 → ∀ i < 9,
      byteAt t (k * 188 + offAt s (k * 188) + i) = byteAt s (k * 188 + offAt s (k * 188) + i)) :
    carrier t sel k ↔ carrier s sel k := by
  have hstamp := hasStamp_congr (sel := sel) (n := min 188 (s.len.toNat - k * 188) - offAt s (k * 188))
    fun hn => hpes (by omega)
  simp only [carrier, hlen, offAt_congr hhead, pusiAt, payloadAt, hhead 1 (by omega), hhead 3 (by omega), hstamp]

theorem four_le_offAt (s : State) (b : Nat) : 4 ≤ offAt s b := by
  rw [offAt]
  split_ifs <;> omega

theorem nine_le_stampPos (sel : TsSel) : 9 ≤ stampPos sel := by
  cases sel <;> decide

/-- Bytes of the first carrier from its timestamp on make no difference to where the first carrier is. -/
theorem firstCarrier_congr {s t : State} {sel : TsSel} {k : Nat} (hk : firstCarrier s sel k) (hlen : t.len = s.len)
    (h : ∀ i < k * 188 + offAt s (k * 188) + 9, byteAt t i = byteAt s i) : firstCarrier t sel k := by
  have hoff := four_le_offAt s (k * 188)
  refine ⟨(carrier_congr hlen (fun i hi => h _ (by omega)) fun _ i hi => h _ (by omega)).mpr hk.1, fun j hj => ?_⟩
  rw [carrier_congr hlen (fun i hi => h _ (by omega)) fun hoff' i hi => h _ (by omega)]
  exact hk.2 j hj

/-- After TS_SET_TS wrote in its first carrier, TS_FIND_TS finds the same packet and the value written. -/
theorem exec_tsFind_stamped {s : State} {sel : TsSel} {k : Nat} (h : inRange s) (hk : firstCarrier s sel k) (i : Instr)
    (res1 : DWord) :
    ∃ u, exec (tsFind sel) (stamped s i (k * 188 + offAt s (k * 188) + stampPos sel) res1) = .next u ∧
      u.status.valid = true ∧ u.res0 = BitVec.ofNat 64 (s.opa.toNat % 2 ^ 33) ∧ u.res1 = BitVec.ofNat 64 (k * 188) := by
  have hp := carrier_inside hk.1
  have hoff := four_le_offAt s (k * 188)
  have hpos := nine_le_stampPos sel
  have hw := stamped_writesView hp i res1
  refine ⟨_, exec_tsFind (hw.inRange_iff.mpr h)
    (firstCarrier_congr hk hw.len fun i hi => hw.byteAt_other (by omega)), rfl, ?_, rfl⟩
  rw [offAt_congr fun i hi => hw.byteAt_other (by omega), stampAt_stamped hp]

/-! ## PES_GET_TS and PES_SET_TS -/

theorem ruleOf_pesGet (sel : TsSel) : ruleOf (pesGet sel) = pesGetTsRule sel := by
  cases sel <;> rfl

theorem exec_pesGet {s : State} {sel : TsSel} (h : inRange s) (hts : hasStamp s sel 0 s.len.toNat) :
    exec (pesGet sel) s =
      .next { answered s (pesGet sel) true with res0 := BitVec.ofNat 64 (stampAt s (stampPos sel)) } := by
  have hval := View.stampAt_eq (Q := s.inputView) (s := s) (b := 0) (p := stampPos sel)
    (fun i _ => by rw [State.inputView_get_eq, Nat.zero_add]) (by rw [State.inputView_len]; exact hasStamp_len hts)
  rw [Nat.zero_add] at hval
  rw [exec_of_view (ruleOf_pesGet sel) h, if_pos ((hasTs_inputView s sel).mpr hts), ← hval, stampPos_eq]
  rfl

theorem exec_pesSet {s : State} {sel : TsSel} (h : inRange s) (hts : hasStamp s sel 0 s.len.toNat) :
    exec (pesSet sel) s = .next (stamped s (pesSet sel) (stampPos sel) s.res1) := by
  rw [exec_of_view (ruleOf_pesSet sel) h, if_pos ((hasTs_inputView s sel).mpr hts), stamped, ← wrote_eq, ← stampA_setWidth,
    ← State.inputView_get_eq, stampPos_eq]
  rfl

/-- A written first byte keeps the four high bits and the marker bit of the old one (43_ts_pes.md R161). -/
theorem tsEncode_head_kept (v : Stamp) (old : Byte) : (tsEncode v old).getD 0 0 &&& 0xF1#8 = old &&& 0xF1#8 := by
  have hcleared : (0x0E#8 &&& 0xF1#8 : Byte) = 0#8 := by decide
  rw [tsEncode, List.getD_cons_zero, BitVec.and_or_distrib_right, BitVec.and_assoc, BitVec.and_assoc]
  simp [hcleared]

/-- PES_GET_TS after PES_SET_TS returns the value written (43_ts_pes.md R163). -/
theorem exec_pesGet_stamped {s : State} {sel : TsSel} (h : inRange s) (hts : hasStamp s sel 0 s.len.toNat) (i : Instr)
    (res1 : DWord) :
    ∃ u, exec (pesGet sel) (stamped s i (stampPos sel) res1) = .next u ∧ u.status.valid = true ∧
      u.res0 = BitVec.ofNat 64 (s.opa.toNat % 2 ^ 33) := by
  have hpos := nine_le_stampPos sel
  have hw := stamped_writesView (hasStamp_len hts) i res1
  have hts' : hasStamp (stamped s i (stampPos sel) res1) sel 0 s.len.toNat :=
    (hasStamp_congr fun _ i hi => hw.byteAt_other (by omega)).mpr hts
  exact ⟨_, exec_pesGet (hw.inRange_iff.mpr h) hts', rfl,
    congrArg (BitVec.ofNat 64) (stampAt_stamped (hasStamp_len hts) i res1)⟩

end Sys2Proof.Machine

namespace Sys2Proof.Proofs

open Sys2Proof.Machine Sys2Proof.Claims

/-- Settles O42: the scan finds the first carrier and nothing where there is none. -/
theorem tsFindTsFindsFirst : Obligations.TsFindTsFindsFirst := by
  refine fun s sel => ⟨fun h k hk => exec_tsFind h hk, fun h hnone => ?_,
    exec_of_view_outside (by cases sel <;> decide) (by cases sel <;> decide)⟩
  · rw [exec_of_view (ruleOf_tsFind sel) h]
    simp only [scanTs_of_no_carrier hnone]
    rfl

/-- Settles O43: the scan finds the first carrier, and the five bytes written are those of `stampByte`. -/
theorem tsSetTsWritesFirst : Obligations.TsSetTsWritesFirst := by
  refine fun s sel => ⟨fun h k hk => ⟨_, exec_tsSet h hk, rfl, ?_⟩, exec_tsSet_none, exec_tsSet_outside sel⟩
  exact (stamped_writesView (carrier_inside hk.1) _ _).buf

/-- Settles O44: VALID says that a packet carried the timestamp; the write leaves that packet the first carrier
(`firstCarrier_congr`). -/
theorem tsSetThenFindAgree : Obligations.TsSetThenFindAgree := by
  intro s t sel ht hvalid
  by_cases hin : inRange s
  · by_cases hex : ∃ k, carrier s sel k
    · obtain ⟨k, hk⟩ := exists_firstCarrier hex
      rw [exec_tsSet hin hk] at ht
      obtain rfl := Host.Outcome.next.inj ht
      exact exec_tsFind_stamped hin hk _ _
    · rw [exec_tsSet_none hin (not_exists.mp hex)] at ht
      obtain rfl := Host.Outcome.next.inj ht
      cases hvalid
  · rw [exec_tsSet_outside sel hin] at ht
    obtain rfl := Host.Outcome.next.inj ht
    cases hvalid

/-- Settles O40: the model's test of the header is `hasStamp`, and its five bytes are the number `stampAt`. -/
theorem pesGetTsExtracts : Obligations.PesGetTsExtracts := by
  refine fun s sel => ⟨exec_pesGet, fun h hno => ?_,
    exec_of_view_outside (by cases sel <;> decide) (by cases sel <;> decide)⟩
  · rw [exec_of_view (ruleOf_pesGet sel) h, if_neg (mt (hasTs_inputView s sel).mp hno)]
    rfl

/-- Settles O41: the write keeps the header's bytes 7 and 8, so the field is there again and holds the value written. -/
theorem pesSetTsRoundTrips : Obligations.PesSetTsRoundTrips := by
  refine fun s sel => ⟨fun h hts => ?_, fun h hno => ?_,
    exec_of_view_outside (by cases sel <;> decide) (by cases sel <;> decide)⟩
  · have hw := stamped_writesView (hasStamp_len hts) (pesSet sel) s.res1
    refine ⟨_, exec_pesSet h hts, rfl, hw.buf, ?_, exec_pesGet_stamped h hts _ _⟩
    have hlen := hasStamp_len hts
    have hold : BitVec.ofNat 8 (byteAt s (stampPos sel)) = s.bufByte (s.addr.toNat + stampPos sel) := by
      rw [byteAt, if_pos (by omega), BitVec.ofNat_toNat, BitVec.setWidth_eq]
    rw [stamped, wrote_bufByte, if_pos (by rw [tsEncode_length]; omega), Nat.sub_self, tsEncode_head_kept, hold]
  · rw [exec_of_view (ruleOf_pesSet sel) h, if_neg (mt (hasTs_inputView s sel).mp hno)]
    rfl

end Sys2Proof.Proofs
end

section
/-! TS packet headers and the PCR (43_ts_pes.md R150 to R153). -/

namespace Sys2Proof.Machine

open Sys2Proof.Claims

/-! ## TS packet headers -/

theorem beq_ofNat_eq_decide {n : Nat} (v : BitVec n) {c : Nat} (hc : c < 2 ^ n) :
    (v == BitVec.ofNat n c) = decide (v.toNat = c) := by
  rw [Bool.eq_iff_iff, beq_iff_eq, decide_eq_true_eq, BitVec.toNat_eq, BitVec.toNat_ofNat, Nat.mod_eq_of_lt hc]

/-- A header's fields lie in its first six bytes, so packet 0 has those of the whole view (43_ts_pes.md R150). -/
theorem tsFields_packetAt_zero (V : View) : tsFields (packetAt V 0) = tsFields V := by
  have hget : ∀ i < 188, (packetAt V 0).get i = V.get i := fun i hi => by rw [packetAt_get V 0 hi, Nat.zero_mul, Nat.zero_add]
  simp only [tsFields, payloadOffset, hget 0 (by omega), hget 1 (by omega), hget 2 (by omega), hget 3 (by omega),
    hget 4 (by omega), hget 5 (by omega)]

section

variable (s : State)

theorem tsFields_inputView_pusi : (tsFields s.inputView).pusi = pusiAt s 0 := by
  rw [← tsFields_packetAt_zero, tsFields_pusi, Nat.zero_mul]

theorem tsFields_inputView_adapt : (tsFields s.inputView).adapt = adaptAt s 0 := by
  rw [← tsFields_packetAt_zero, tsFields_adapt, Nat.zero_mul]

theorem tsFields_inputView_off : (tsFields s.inputView).off = offAt s 0 := by
  rw [← tsFields_packetAt_zero, tsFields_off, Nat.zero_mul]

theorem tsFields_inputView_plen :
    (tsFields s.inputView).plen = if payloadAt s 0 then 188 - offAt s 0 else 0 := by
  have hpayload : (tsFields s.inputView).payload = payloadAt s 0 := by
    rw [← tsFields_packetAt_zero, tsFields_payload, Nat.zero_mul]
  rw [← hpayload, ← tsFields_inputView_off]
  rfl

theorem tsFields_inputView_hasPcr : (tsFields s.inputView).hasPcr = pcrFlag s := by
  simp only [tsFields, byte_getLsbD, State.inputView_get_toNat, pcrFlag, adaptAt, Nat.reducePow, Nat.zero_add]

theorem tsFields_inputView_pid : (tsFields s.inputView).pid.toNat = pidAt s 0 := by
  rw [tsFields, BitVec.toNat_append, BitVec.extractLsb'_toNat, shiftLeft_or_byte, State.inputView_get_toNat,
    State.inputView_get_toNat]
  rfl

/-- A bit of a byte as a number. -/
theorem toNat_getLsbD (b : Byte) (i : Nat) : (b.getLsbD i).toNat = b.toNat / 2 ^ i % 2 := by
  rw [byte_getLsbD]
  rcases Nat.mod_two_eq_zero_or_one (b.toNat / 2 ^ i) with h | h <;> simp [h]

/-- RES0 of TS_HDR: each field at its bit (43_ts_pes.md R151). -/
theorem tsHdrWord0_inputView :
    tsHdrWord0 (tsFields s.inputView) =
      pidAt s 0 + 2 ^ 13 * (byteAt s 1 / 32 % 2) + 2 ^ 14 * (pusiAt s 0).toNat + 2 ^ 15 * (byteAt s 1 / 128) +
        2 ^ 16 * (byteAt s 3 / 16 % 4) + 2 ^ 18 * (byteAt s 3 / 64) + 2 ^ 20 * (byteAt s 3 % 16) := by
  have h1 := byteAt_lt s 1
  have h3 := byteAt_lt s 3
  have hpid : pidAt s 0 < 2 ^ 13 := by
    rw [← tsFields_inputView_pid]
    exact BitVec.isLt _
  have htp : (tsFields s.inputView).tp.toNat = byteAt s 1 / 32 % 2 := by
    rw [← State.inputView_get_toNat]
    exact toNat_getLsbD _ 5
  have htei : (tsFields s.inputView).tei.toNat = byteAt s 1 / 128 := by
    rw [← Nat.mod_eq_of_lt (by omega : byteAt s 1 / 128 < 2), ← State.inputView_get_toNat]
    exact toNat_getLsbD _ 7
  have hafc : (tsFields s.inputView).afc.toNat = byteAt s 3 / 16 % 4 := by
    rw [← State.inputView_get_toNat, ← Nat.shiftRight_eq_div_pow _ 4]
    exact BitVec.extractLsb'_toNat 4 2 _
  have htsc : (tsFields s.inputView).tsc.toNat = byteAt s 3 / 64 := by
    rw [← Nat.mod_eq_of_lt (by omega : byteAt s 3 / 64 < 4), ← State.inputView_get_toNat, ← Nat.shiftRight_eq_div_pow _ 6]
    exact BitVec.extractLsb'_toNat 6 2 _
  have hcc : (tsFields s.inputView).cc.toNat = byteAt s 3 % 16 := by
    rw [← State.inputView_get_toNat]
    exact BitVec.extractLsb'_toNat 0 4 _
  have hpusi := Bool.toNat_lt (pusiAt s 0)
  rw [tsHdrWord0, tsFields_inputView_pid, htp, tsFields_inputView_pusi, htei, hafc, htsc, hcc,
    or_shiftLeft_eq_add (n := 13) (by omega), or_shiftLeft_eq_add (n := 14) (by omega),
    or_shiftLeft_eq_add (n := 15) (by omega), or_shiftLeft_eq_add (n := 16) (by omega),
    or_shiftLeft_eq_add (n := 18) (by omega), or_shiftLeft_eq_add (n := 20) (by omega)]

/-- RES1 of TS_HDR: each field at its bit (43_ts_pes.md R151). -/
theorem tsHdrWord1_inputView :
    tsHdrWord1 (tsFields s.inputView) =
      offAt s 0 + 2 ^ 8 * (if payloadAt s 0 then 188 - offAt s 0 else 0) + 2 ^ 16 * (pcrFlag s).toNat +
        (if pidAt s 0 = 0x1FFF then 2 ^ 17 else 0) := by
  have hoff : offAt s 0 ≤ 188 := by
    rw [offAt]
    split_ifs <;> omega
  have hplen : (if payloadAt s 0 then 188 - offAt s 0 else 0) ≤ 188 := by split_ifs <;> omega
  have hnull : ((tsFields s.inputView).pid == 0x1FFF#13).toNat = if pidAt s 0 = 0x1FFF then 1 else 0 := by
    have hbeq := beq_ofNat_eq_decide (tsFields s.inputView).pid (c := 0x1FFF) (by omega)
    rw [tsFields_inputView_pid] at hbeq
    rw [hbeq]
    split_ifs with h <;> simp [h]
  have hpcr := Bool.toNat_lt (pcrFlag s)
  rw [tsHdrWord1, tsFields_inputView_off, tsFields_inputView_plen, tsFields_inputView_hasPcr, hnull,
    or_shiftLeft_eq_add (n := 8) (by omega), or_shiftLeft_eq_add (n := 16) (by omega),
    or_shiftLeft_eq_add (n := 17) (by omega), mul_ite (pidAt s 0 = 0x1FFF), Nat.mul_one, Nat.mul_zero]

end

/-- A packet is whole and has a bad sync byte or too long an adaptation field (43_ts_pes.md R151). -/
def tsHdrBad (s : State) : Bool :=
  decide (188 ≤ s.len.toNat) && (!decide (byteAt s 0 = 0x47) || (adaptAt s 0 && decide (183 < byteAt s 4)))

/-- TS_HDR on a view in range, by the fields of its header. -/
theorem exec_tsHdr {s : State} (h : inRange s) :
    exec .tsHdr s =
      .next { s with
        cmd := encode .tsHdr
        status := { quiet s.status with
          valid := decide (188 ≤ s.len.toNat) && !tsHdrBad s, needMore := !decide (188 ≤ s.len.toNat), malformed := tsHdrBad s }
        res0 := BitVec.ofNat 64 (tsHdrWord0 (tsFields s.inputView))
        res1 := BitVec.ofNat 64 (tsHdrWord1 (tsFields s.inputView)) } := by
  have hrule : ruleOf .tsHdr = tsHdrRule := rfl
  have hsync : (tsFields s.inputView).sync = decide (byteAt s 0 = 0x47) := by
    rw [← State.inputView_get_toNat]
    exact beq_ofNat_eq_decide _ (by omega)
  rw [exec_of_view hrule h]
  simp only [hsync, tsFields_inputView_adapt, State.inputView_len, State.inputView_get_toNat]
  rfl

/-! ## The PCR -/

theorem pcrPresent_inputView (s : State) : pcrPresent s.inputView = true ↔ pcrFlag s = true ∧ 12 ≤ s.len.toNat := by
  rw [pcrPresent, tsFields_inputView_hasPcr, State.inputView_len, Bool.and_eq_true, decide_eq_true_eq]

theorem pcrBase_inputView (s : State) : pcrBase s.inputView = (pcrFields s).1 := by
  have h7 := byteAt_lt s 7
  have h8 := byteAt_lt s 8
  have h9 := byteAt_lt s 9
  have h10 := byteAt_lt s 10
  simp only [pcrBase, State.inputView_get_toNat, Nat.shiftLeft_eq, Nat.shiftRight_eq_div_pow, Nat.or_assoc]
  rw [or_eq_add_of_dvd (n := 1) (a := _ * 2 ^ 1) (by omega) (by omega),
    or_eq_add_of_dvd (n := 9) (a := _ * 2 ^ 9) (by omega) (by omega),
    or_eq_add_of_dvd (n := 17) (a := _ * 2 ^ 17) (by omega) (by omega),
    or_eq_add_of_dvd (n := 25) (by omega) (by omega), pcrFields]
  omega

theorem pcrExt_inputView (s : State) : pcrExt s.inputView = (pcrFields s).2 := by
  rw [pcrExt, shiftLeft_or_byte, Nat.and_two_pow_sub_one_eq_mod _ 1, State.inputView_get_toNat, State.inputView_get_toNat]
  rfl

theorem pcrFields_base_lt (s : State) : (pcrFields s).1 < 2 ^ 33 := by
  have h6 := byteAt_lt s 6
  have h7 := byteAt_lt s 7
  have h8 := byteAt_lt s 8
  have h9 := byteAt_lt s 9
  have h10 := byteAt_lt s 10
  rw [pcrFields]
  omega

theorem exec_tsPcrGet {s : State} (h : inRange s) (hpcr : pcrFlag s = true) (hlen : 12 ≤ s.len.toNat) :
    exec .tsPcrGet s =
      .next { answered s .tsPcrGet true with
        res0 := BitVec.ofNat 64 ((pcrFields s).1 * 300 + (pcrFields s).2)
        res1 := BitVec.ofNat 64 ((pcrFields s).1 + (pcrFields s).2 * 2 ^ 40) } := by
  have hrule : ruleOf .tsPcrGet = tsPcrGetRule := rfl
  have hbase := pcrFields_base_lt s
  have hword : (pcrFields s).1 ||| (pcrFields s).2 <<< 40 = (pcrFields s).1 + (pcrFields s).2 * 2 ^ 40 := by
    rw [or_shiftLeft_eq_add (by omega), Nat.mul_comm]
  rw [exec_of_view hrule h, if_pos ((pcrPresent_inputView s).mpr ⟨hpcr, hlen⟩), pcrBase_inputView, pcrExt_inputView, hword]
  rfl

/-- The six PCR bytes as numbers (43_ts_pes.md R153). -/
theorem pcrBytes_getD (base ext : Nat) {j : Nat} (hj : j < 6) :
    (pcrBytes base ext).getD j 0 = BitVec.ofNat 8 (pcrByte base ext j) := by
  rw [← BitVec.toNat_inj]
  interval_cases j <;>
    simp only [pcrBytes, pcrByte, List.getD_cons_zero, List.getD_cons_succ, BitVec.toNat_ofNat, Nat.shiftRight_eq_div_pow,
      Nat.shiftLeft_eq, Nat.mod_mod, Nat.reducePow, Nat.pow_one]
  rw [Nat.or_assoc, or_eq_add_of_dvd (n := 1) (a := 126) (by decide) (by omega),
    or_eq_add_of_dvd (n := 7) (by omega) (by omega), Nat.add_assoc]

/-- The state TS_PCR_SET leaves where the packet has a PCR (43_ts_pes.md R153). -/
def pcrWritten (s : State) : State :=
  wrote s .tsPcrSet 6 (pcrBytes (s.opa.toNat / 300 % 2 ^ 33) (s.opa.toNat % 300))
    (BitVec.ofNat 64 (s.opa.toNat / 300 % 2 ^ 33 * 300 + s.opa.toNat % 300)) s.res1

theorem exec_tsPcrSet {s : State} (h : inRange s) (hpcr : pcrFlag s = true) (hlen : 12 ≤ s.len.toNat) :
    exec .tsPcrSet s = .next (pcrWritten s) := by
  have hrule : ruleOf .tsPcrSet = tsPcrSetRule := rfl
  rw [exec_of_view hrule h, if_pos ((pcrPresent_inputView s).mpr ⟨hpcr, hlen⟩), pcrWritten, ← wrote_eq]
  rfl

theorem pcrWritten_writesView {s : State} (hlen : 12 ≤ s.len.toNat) :
    WritesView s (pcrWritten s) 6 6 (pcrByte (s.opa.toNat / 300 % 2 ^ 33) (s.opa.toNat % 300)) :=
  wrote_writesView rfl (fun _ hj => pcrBytes_getD _ _ hj) hlen _ _ _

theorem pcrFields_pcrWritten {s : State} (hlen : 12 ≤ s.len.toNat) :
    pcrFields (pcrWritten s) = (s.opa.toNat / 300 % 2 ^ 33, s.opa.toNat % 300) := by
  have hbyte : ∀ j < 6, byteAt (pcrWritten s) (6 + j) = _ := fun j hj => (pcrWritten_writesView hlen).byteAt_at hj
  rw [pcrFields, hbyte 0 (by omega), hbyte 1 (by omega), hbyte 2 (by omega), hbyte 3 (by omega), hbyte 4 (by omega),
    hbyte 5 (by omega)]
  have hbase : s.opa.toNat / 300 % 2 ^ 33 < 2 ^ 33 := Nat.mod_lt _ (by omega)
  have hext : s.opa.toNat % 300 < 300 := Nat.mod_lt _ (by omega)
  generalize s.opa.toNat / 300 % 2 ^ 33 = base at hbase ⊢
  generalize s.opa.toNat % 300 = ext at hext ⊢
  simp only [pcrByte, Prod.mk.injEq]
  omega

/-- TS_PCR_GET after TS_PCR_SET returns OPA mod (2^33 * 300) (43_ts_pes.md R153). -/
theorem exec_tsPcrGet_pcrWritten {s : State} (h : inRange s) (hpcr : pcrFlag s = true) (hlen : 12 ≤ s.len.toNat) :
    ∃ u, exec .tsPcrGet (pcrWritten s) = .next u ∧ u.status.valid = true ∧
      u.res0 = BitVec.ofNat 64 (s.opa.toNat % (2 ^ 33 * 300)) := by
  have hw := pcrWritten_writesView hlen
  have hpcr' : pcrFlag (pcrWritten s) = true := by
    rw [← hpcr, pcrFlag, pcrFlag, adaptAt, adaptAt, hw.byteAt_other (by omega), hw.byteAt_other (by omega),
      hw.byteAt_other (by omega)]
  refine ⟨_, exec_tsPcrGet (hw.inRange_iff.mpr h) hpcr' hlen, rfl, ?_⟩
  rw [pcrFields_pcrWritten hlen, Nat.mul_comm (2 ^ 33), Nat.mod_mul, Nat.mul_comm 300, Nat.add_comm]

end Sys2Proof.Machine

namespace Sys2Proof.Proofs

open Sys2Proof.Machine Sys2Proof.Claims

/-- Settles O36: the fields of the view's header as numbers, each at its bit of the two result words. -/
theorem tsHdrFields : Obligations.TsHdrFields := by
  refine fun s => ⟨fun h bad hbad => ?_, exec_of_view_outside (by decide) (by decide)⟩
  obtain rfl : bad = tsHdrBad s := by
    rw [Bool.eq_iff_iff, hbad]
    simp [tsHdrBad]
  rw [exec_tsHdr h, tsHdrWord0_inputView, tsHdrWord1_inputView, ← decide_not, decide_eq_decide.mpr Nat.not_le]

/-- Settles O37: the PCR's bytes as numbers, base and extension. -/
theorem tsPcrGetReads : Obligations.TsPcrGetReads := by
  refine fun s => ⟨exec_tsPcrGet, fun h hno => ?_, exec_of_view_outside (by decide) (by decide)⟩
  have hrule : ruleOf .tsPcrGet = tsPcrGetRule := rfl
  rw [exec_of_view hrule h, if_neg (mt (pcrPresent_inputView s).mp hno)]
  rfl

/-- Settles O38: the write leaves the header's first six bytes, so the PCR is there again and holds the value written. -/
theorem tsPcrSetWrites : Obligations.TsPcrSetWrites := by
  refine fun s => ⟨fun h hpcr hlen => ?_, fun h hno => ?_, exec_of_view_outside (by decide) (by decide)⟩
  · exact ⟨_, exec_tsPcrSet h hpcr hlen, rfl, (pcrWritten_writesView hlen).buf, exec_tsPcrGet_pcrWritten h hpcr hlen⟩
  · have hrule : ruleOf .tsPcrSet = tsPcrSetRule := rfl
    rw [exec_of_view hrule h, if_neg (mt (pcrPresent_inputView s).mp hno)]
    rfl

end Sys2Proof.Proofs
end

section
/-! PES_ANALYZE (43_ts_pes.md R155): `analyze`, which steps over the MPEG-1 stuffing bytes, is `analysis`, which counts them. -/

namespace Sys2Proof.Machine

open Sys2Proof.Claims

/-- The bits of a byte from bit `n` on, under a mask. -/
theorem and_highMask_eq_iff (b : Byte) {n c : Nat} (hn : n ≤ 8) (hc : c < 2 ^ (8 - n)) :
    b &&& BitVec.ofNat 8 ((2 ^ (8 - n) - 1) <<< n) = BitVec.ofNat 8 (c <<< n) ↔ b.toNat / 2 ^ n = c := by
  have hpow : 2 ^ (8 - n) * 2 ^ n = 2 ^ 8 := by rw [← pow_add, Nat.sub_add_cancel hn]
  have hfits : ∀ x < 2 ^ (8 - n), x <<< n < 2 ^ 8 := fun x hx => by
    rw [Nat.shiftLeft_eq, ← hpow]
    exact Nat.mul_lt_mul_of_pos_right hx (Nat.two_pow_pos n)
  have hb : b.toNat / 2 ^ n < 2 ^ (8 - n) := Nat.div_lt_of_lt_mul (by rw [Nat.mul_comm, hpow]; exact b.isLt)
  rw [← BitVec.toNat_inj, BitVec.toNat_and, BitVec.toNat_ofNat, BitVec.toNat_ofNat,
    Nat.mod_eq_of_lt (hfits _ (Nat.sub_lt (Nat.two_pow_pos _) Nat.one_pos)), Nat.mod_eq_of_lt (hfits c hc), and_mask,
    Nat.mod_eq_of_lt hb, Nat.shiftLeft_eq, Nat.mul_left_inj (Nat.two_pow_pos n).ne']

/-- The result of `analyze` as the claims write it. -/
def PesInfo.triple (a : PesInfo) : Nat × Nat × Bool := (a.kind.code, a.off, a.cont)

/-- The stuffing bytes from `off` on, of the `k` looked at. -/
def stuffingFrom (d : Nat → Nat) (off k : Nat) : Nat := ((List.range k).takeWhile fun j => d (off + j) == 0xFF).length

theorem stuffingFrom_succ (d : Nat → Nat) (off k : Nat) :
    stuffingFrom d off (k + 1) = if d off = 0xFF then stuffingFrom d (off + 1) k + 1 else 0 := by
  rw [stuffingFrom, List.range_succ_eq_map, List.takeWhile_cons, List.takeWhile_map]
  split_ifs <;> simp_all [stuffingFrom, Function.comp_def, Nat.add_assoc, Nat.add_comm 1]

section

variable {P : View} {d : Nat → Nat} (hget : ∀ i, (P.get i).toNat = d i)
include hget

/-- The loop stops after the stuffing bytes it counts, or at the header's end if they reach it. -/
theorem skipStuffing_eq {n k off : Nat} (hoff : off < n) :
    skipStuffing P n k off =
      if n ≤ off + stuffingFrom d off k then none else some (off + stuffingFrom d off k) := by
  induction k generalizing off with
  | zero => exact (if_neg (by simpa [stuffingFrom] using hoff)).symm
  | succ k ih =>
    have hff : P.get off = 0xFF#8 ↔ d off = 0xFF := by rw [← hget, ← BitVec.toNat_inj]; rfl
    rw [skipStuffing, stuffingFrom_succ]
    simp only [hff]
    split_ifs with h hend hend' hend'
    · rfl
    · omega
    · rw [ih (by omega), if_pos (by omega)]
    · rw [ih (by omega), if_neg (by omega)]
      congr 1
      omega
    · omega
    · rfl

/-- The STD_buffer field takes two bytes where it is present. -/
theorem skipStdBuffer_eq {n off : Nat} :
    skipStdBuffer P n off =
      if d off / 64 = 1 then if n ≤ off + 2 then none else some (off + 2) else some off := by
  have hstd : P.get off &&& 0xC0#8 = 0x40#8 ↔ d off / 64 = 1 :=
    hget off ▸ and_highMask_eq_iff _ (n := 6) (c := 1) (by omega) (by omega)
  simp only [skipStdBuffer, hstd]

theorem analyzeMpeg1Tail_eq {n off : Nat} (hoff : off < n) :
    (analyzeMpeg1Tail P n off).triple =
      if d off / 16 = 2 then (if n < off + 5 then (0, 0, false) else (2, off + 5, false))
      else if d off / 16 = 3 then (if n < off + 10 then (0, 0, false) else (2, off + 10, false))
      else if d off = 0x0F then (2, off + 1, true)
      else (1, 0, false) := by
  have hpts : P.get off &&& 0xF0#8 = 0x20#8 ↔ d off / 16 = 2 :=
    hget off ▸ and_highMask_eq_iff _ (n := 4) (c := 2) (by omega) (by omega)
  have hdts : P.get off &&& 0xF0#8 = 0x30#8 ↔ d off / 16 = 3 :=
    hget off ▸ and_highMask_eq_iff _ (n := 4) (c := 3) (by omega) (by omega)
  have hcont : P.get off = 0x0F#8 ↔ d off = 0x0F := by rw [← hget, ← BitVec.toNat_inj]; rfl
  have hend : ¬n < off + 1 := by omega
  simp only [analyzeMpeg1Tail, hpts, hdts, hcont, hend, apply_ite PesInfo.triple, if_false]
  rfl

theorem analyzeMpeg1_triple {n : Nat} (hn : ¬n < 7) (hmpeg1 : ¬d 6 / 64 = 2) : (analyzeMpeg1 P n).triple = analysis d n := by
  rw [analyzeMpeg1, skipStuffing_eq hget (by omega), analysis, if_neg hn, if_neg hmpeg1, ← stuffingFrom]
  generalize 6 + stuffingFrom d 6 16 = o1
  by_cases ho1 : n ≤ o1
  · simp only [ho1, true_or, if_true]
    rfl
  · simp only [ho1, false_or, if_false, skipStdBuffer_eq hget]
    by_cases hstd : d o1 / 64 = 1
    · by_cases ho2 : n ≤ o1 + 2
      · simp only [hstd, ho2, if_true]
        rfl
      · simp only [hstd, ho2, if_true, if_false]
        exact analyzeMpeg1Tail_eq hget (by omega)
    · simp only [hstd, ho1, if_false]
      exact analyzeMpeg1Tail_eq hget (by omega)

theorem analyze_triple (n : Nat) : (analyze P n).triple = analysis d n := by
  have hmpeg2 : P.get 6 &&& 0xC0#8 = 0x80#8 ↔ d 6 / 64 = 2 :=
    hget 6 ▸ and_highMask_eq_iff _ (n := 6) (c := 2) (by omega) (by omega)
  have hcont : (P.get 6 == 0x80#8 && P.get 7 == 0#8 && P.get 8 == 0#8) = decide (d 6 = 0x80 ∧ d 7 = 0 ∧ d 8 = 0) := by
    rw [beq_ofNat_eq_decide _ (by omega), beq_ofNat_eq_decide _ (by omega), beq_ofNat_eq_decide _ (by omega), hget, hget, hget,
      Bool.decide_and, Bool.decide_and, Bool.and_assoc]
  rw [analyze]
  split_ifs with hshort hkind h9 hlen
  · rw [analysis, if_pos hshort]
    rfl
  · rw [analysis, if_neg hshort, if_pos (hmpeg2.mp hkind), if_pos (.inl h9)]
    rfl
  · rw [analysis, if_neg hshort, if_pos (hmpeg2.mp hkind), if_pos (.inr (hget 8 ▸ hlen))]
    rfl
  · rw [hget] at hlen
    rw [analysis, if_neg hshort, if_pos (hmpeg2.mp hkind), if_neg (not_or.mpr ⟨h9, hlen⟩), hcont, hget]
    rfl
  · exact analyzeMpeg1_triple hget hshort (mt hmpeg2.mpr hkind)

end

/-- PES_ANALYZE on a view in range, by the kind, offset and flag of `analyze`. -/
theorem exec_pesAnalyze {s : State} (h : inRange s) :
    exec .pesAnalyze s =
      .next { s with
        cmd := encode .pesAnalyze
        status := { quiet s.status with
          valid := decide ((analysis (byteAt s) s.len.toNat).1 = 2 ∨ (analysis (byteAt s) s.len.toNat).1 = 3)
          needMore := decide ((analysis (byteAt s) s.len.toNat).1 = 0)
          malformed := decide ((analysis (byteAt s) s.len.toNat).1 = 1) }
        res0 := BitVec.ofNat 64
          ((analysis (byteAt s) s.len.toNat).1 + 256 * (analysis (byteAt s) s.len.toNat).2.2.toNat)
        res1 := BitVec.ofNat 64 (analysis (byteAt s) s.len.toNat).2.1 } := by
  have hrule : ruleOf .pesAnalyze = pesAnalyzeRule := rfl
  rw [exec_of_view hrule h, State.inputView_len, ← analyze_triple (State.inputView_get_toNat s)]
  generalize analyze s.inputView s.len.toNat = a
  obtain ⟨kind, off, cont⟩ := a
  have hcode : kind.code < 2 ^ 8 := by cases kind <;> decide
  have hword : kind.code ||| cont.toNat <<< 8 = kind.code + 256 * cont.toNat := or_shiftLeft_eq_add hcode _
  simp only [PesInfo.triple, hword]
  cases kind <;> rfl

end Sys2Proof.Machine

namespace Sys2Proof.Proofs

open Sys2Proof.Machine Sys2Proof.Claims

/-- Settles O39: `analyze` on the view's bytes is `analysis` (`analyze_triple`). -/
theorem pesAnalyzeClassifies : Obligations.PesAnalyzeClassifies := by
  refine fun s => ⟨fun h kind off cont ha => ?_, exec_of_view_outside (by decide) (by decide)⟩
  rw [exec_pesAnalyze h, ha]

end Sys2Proof.Proofs
end

section
/-! Timestamp arithmetic (44_timestamp.md R180 to R183): the residue and the difference of the model are the two readings, unsigned
and signed, of the 33-bit subtraction `b - a`, so R183 is cancellation in `BitVec 33`. -/

namespace Sys2Proof.Machine

open Sys2Proof.Claims

/-! ## The circle as 33-bit words -/

theorem stampResidue_eq_toNat_sub (a b : Stamp) : stampResidue a b = (b - a).toNat := by
  rw [stampResidue, BitVec.toNat_sub]
  omega

theorem stampDiff_eq_toInt_sub (a b : Stamp) : stampDiff a b = (b - a).toInt := by
  rw [stampDiff, stampResidue_eq_toNat_sub, BitVec.toInt_eq_toNat_cond]
  split_ifs <;> omega

/-- The low 33 bits of a difference as RES0 holds it (44_timestamp.md R183). -/
theorem setWidth_signExtend_stamp (d : Stamp) : ((d.signExtend 64 : DWord).setWidth 33 : Stamp) = d := by
  ext i hi
  have hi64 : i < 64 := by omega
  simp only [BitVec.getElem_setWidth, BitVec.getLsbD_signExtend, BitVec.getLsbD_eq_getElem hi, hi, hi64, if_true, decide_true,
    Bool.true_and]

/-! ## The operands -/

theorem State.stampA_toNat (s : State) : s.stampA.toNat = s.opa.toNat % 2 ^ 33 := BitVec.toNat_setWidth 33 s.opa

theorem State.stampB_toNat (s : State) : s.stampB.toNat = s.opb.toNat % 2 ^ 33 := BitVec.toNat_setWidth 33 s.opb

/-- The residue of the operands as an integer (44_timestamp.md R181). -/
theorem State.toNat_stampB_sub_stampA (s : State) :
    (s.stampB - s.stampA).toNat = (((s.opb.toNat % 2 ^ 33 : Int) - (s.opa.toNat % 2 ^ 33 : Int)) % 2 ^ 33).toNat := by
  rw [← stampResidue_eq_toNat_sub, stampResidue, s.stampA_toNat, s.stampB_toNat]
  rfl

/-- The signed difference is congruent to that of the whole operand registers. -/
theorem State.dvd_toInt_stampB_sub_stampA (s : State) :
    (2 ^ 33 : Int) ∣ (s.stampB - s.stampA).toInt - ((s.opb.toNat : Int) - s.opa.toNat) := by
  have hres := s.toNat_stampB_sub_stampA
  rw [BitVec.toInt_eq_toNat_cond]
  split_ifs <;> omega

/-! ## The commands -/

theorem exec_t33Diff (s : State) :
    exec .t33Diff s =
      .next { answered s .t33Diff true with
        res0 := (s.stampB - s.stampA).signExtend 64, res1 := BitVec.ofNat 64 (s.stampB - s.stampA).toNat } := by
  rw [exec_eq_command, ← stampResidue_eq_toNat_sub, BitVec.signExtend, ← stampDiff_eq_toInt_sub]
  exact command_ok rfl

theorem exec_t33Add (s : State) :
    exec .t33Add s = .next { answered s .t33Add true with res0 := BitVec.ofNat 64 (s.stampA + s.stampB).toNat } := by
  rw [exec_eq_command, BitVec.toNat_add]
  exact command_ok rfl

/-- R183: T33_ADD of OPA and the difference that T33_DIFF gives is OPB on the circle. -/
theorem exec_t33Add_difference (s : State) :
    ∃ u, exec .t33Add { s with opb := (s.stampB - s.stampA).signExtend 64 } = .next u ∧
      u.res0 = BitVec.ofNat 64 (s.opb.toNat % 2 ^ 33) := by
  refine ⟨_, exec_t33Add _, ?_⟩
  have hsum : s.stampA + ((s.stampB - s.stampA).signExtend 64 : DWord).setWidth 33 = s.stampB := by
    rw [setWidth_signExtend_stamp, BitVec.add_comm, BitVec.sub_add_cancel]
  exact congrArg (BitVec.ofNat 64) ((congrArg BitVec.toNat hsum).trans s.stampB_toNat)

end Sys2Proof.Machine

namespace Sys2Proof.Proofs

open Sys2Proof.Machine Sys2Proof.Claims

/-- Settles O45: RES0 of T33_DIFF is the 33-bit difference of the operands, sign-extended. -/
theorem timestampArithmetic : Obligations.TimestampArithmetic := by
  intro s
  have hres : ((s.stampB - s.stampA).signExtend 64 : DWord).toInt = (s.stampB - s.stampA).toInt :=
    BitVec.toInt_signExtend_of_le (by decide)
  refine ⟨⟨_, exec_t33Diff s, ?_, ?_, ?_, ?_, exec_t33Add_difference s⟩, ?_⟩
  · rw [s.toNat_stampB_sub_stampA]
  · exact hres.symm ▸ BitVec.le_toInt _
  · exact hres.symm ▸ BitVec.toInt_lt
  · exact hres.symm ▸ s.dvd_toInt_stampB_sub_stampA
  · rw [exec_t33Add, BitVec.toNat_add, s.stampA_toNat, s.stampB_toNat]

end Sys2Proof.Proofs
end

section
/-! FD_CONFIG and FD_PACKET by case (45_frame_detector.md R191, R192, R194 to R196): the two errors, the packets that are not
processed, and what every processed packet leaves. -/

namespace Sys2Proof.Machine

open Sys2Proof.Claims

/-! ## FD_CONFIG -/

theorem fdConfigRule_pid {s : State} (h : s.opa.toNat ≤ 0x1FFF) (kind : Kind) :
    fdConfigRule kind s =
      .ok { s.reportValid true with
        fdCfg := { pid := BitVec.ofNat 13 s.opa.toNat, kind := kind, configured := true }, fdScanner := 0xFFFFFFFF
        fdH264 := .zero, fdLog2mfn := 0, fdResult := .zero, fdRate := .zero, fdDuration := 0, fdSamples := [] } := by
  rw [BitVec.ofNat_toNat]
  exact if_neg (Nat.not_lt.mpr h)

/-! ## The view and the packet -/

/-- FD_PACKET on a view of a configured detector (45_frame_detector.md R192). -/
theorem exec_fdPacket {s : State} (hc : s.fdCfg.configured = true) (h : inRange s) :
    exec .fdPacket s = .next (fdPacket s.inputView (s.beginCommand (encode .fdPacket))) := by
  have hrule : fdPacketRule (s.beginCommand (encode .fdPacket)) =
      withView (s.beginCommand (encode .fdPacket)) fun V => fdPacket V (s.beginCommand (encode .fdPacket)) := if_pos hc
  rw [exec_eq_command]
  refine command_ok (hrule.trans ?_)
  rw [withView_inside (s := s.beginCommand (encode .fdPacket)) h, State.beginCommand_inputView]

theorem inputView_get_eq_iff (s : State) (i : Nat) {c : Nat} (hc : c < 2 ^ 8) :
    s.inputView.get i = BitVec.ofNat 8 c ↔ byteAt s i = c := by
  rw [← BitVec.toNat_inj, State.inputView_get_toNat, BitVec.toNat_ofNat, Nat.mod_eq_of_lt hc]

theorem tsFields_tsc (s : State) (k : Nat) : (tsFields (packetAt s.inputView k)).tsc.toNat = byteAt s (k * 188 + 3) / 64 := by
  have hlt := byteAt_lt s (k * 188 + 3)
  rw [← Nat.mod_eq_of_lt (by omega : byteAt s (k * 188 + 3) / 64 < 4), ← packetAt_inputView_get s k (by omega : 3 < 188),
    ← Nat.shiftRight_eq_div_pow _ 6]
  exact BitVec.extractLsb'_toNat 6 2 _

theorem tsFields_pid (s : State) (k : Nat) : (tsFields (packetAt s.inputView k)).pid.toNat = pidAt s (k * 188) := by
  rw [tsFields, BitVec.toNat_append, BitVec.extractLsb'_toNat, shiftLeft_or_byte, packetAt_inputView_get s k (by omega),
    packetAt_inputView_get s k (by omega)]
  rfl

/-- `accept(f)` of the view's first packet (45_frame_detector.md R195). -/
theorem accepts_inputView (s : State) :
    accepts s.fdCfg.pid (tsFields s.inputView) = true ↔
      pidAt s 0 = s.fdCfg.pid.toNat ∧ payloadAt s 0 = true ∧ byteAt s 3 / 64 = 0 := by
  have hpid := tsFields_pid s 0
  have htsc := tsFields_tsc s 0
  have hpayload := tsFields_payload s 0
  rw [tsFields_packetAt_zero, Nat.zero_mul] at hpid hpayload
  rw [tsFields_packetAt_zero, Nat.zero_mul, Nat.zero_add] at htsc
  simp only [accepts, Bool.and_eq_true, beq_iff_eq, ← BitVec.toNat_inj, hpid, htsc, hpayload, and_assoc]
  rfl

/-! ## What FD_PACKET leaves of an accepted packet -/

/-- What the parser makes of the packet at the start of the input view. -/
def State.parsed (s : State) : ScanState :=
  parsePacket s.inputView (tsFields s.inputView) s.fdCfg (s.scanState (tsFields s.inputView))

/-- The state after the packet at the start of the input view is parsed, sampled and reported (45_frame_detector.md R192). -/
def State.processed (s : State) : State :=
  reportPacket s.parsed.result
    (postPacket s.inputView (tsFields s.inputView) s.parsed.result (s.parsed.store (s.beginCommand (encode .fdPacket))))

theorem exec_fdPacket_accepted {s : State} (h : packetReady s) (ha : accepted s) : exec .fdPacket s = .next s.processed := by
  obtain ⟨hc, hin, hlen⟩ := h
  obtain ⟨hsync, haccept⟩ := ha
  have hwhole : ¬s.inputView.len < 188 := by rw [State.inputView_len]; omega
  have hfirst : ¬s.inputView.get 0 ≠ 0x47#8 := not_not.mpr ((inputView_get_eq_iff s 0 (by omega)).mpr hsync)
  have hpacket : fdPacket s.inputView (s.beginCommand (encode .fdPacket)) =
      processPacket s.inputView (tsFields s.inputView) (s.beginCommand (encode .fdPacket)) := by
    rw [fdPacket, if_neg hwhole, if_neg hfirst]
    exact if_pos ((accepts_inputView s).mpr haccept)
  rw [exec_fdPacket hc hin, hpacket]
  rfl

/-- The state FD_PACKET leaves of an accepted packet is `processed`. -/
theorem eq_processed {s t : State} (h : packetReady s) (ha : accepted s) (ht : exec .fdPacket s = .next t) :
    t = s.processed :=
  Host.Outcome.next.inj (ht.symm.trans (exec_fdPacket_accepted h ha))

@[simp] theorem State.processed_fdResult (s : State) : s.processed.fdResult = s.parsed.result := rfl

@[simp] theorem State.processed_fdScanner (s : State) : s.processed.fdScanner = s.parsed.scanner :=
  postPacket_fdScanner _ _ _ _

@[simp] theorem State.processed_fdH264 (s : State) : s.processed.fdH264 = s.parsed.flags :=
  postPacket_fdH264 _ _ _ _

@[simp] theorem State.processed_fdLog2mfn (s : State) : s.processed.fdLog2mfn = s.parsed.log2mfn :=
  postPacket_fdLog2mfn _ _ _ _

/-! ## The skip to the next likely sync byte -/

/-- From `i` on, the skip is the least likely sync offset, the view's length where there is none (45_frame_detector.md R194). -/
theorem skipCountFrom_least (s : State) {fuel i : Nat} (hfuel : s.len.toNat ≤ fuel + i) (hi : i ≤ s.len.toNat) :
    i ≤ skipCountFrom s.inputView fuel i ∧ (∀ j, i ≤ j → j < skipCountFrom s.inputView fuel i → ¬likelySync s j) ∧
      (skipCountFrom s.inputView fuel i = s.len.toNat ∨
        (skipCountFrom s.inputView fuel i < s.len.toNat ∧ likelySync s (skipCountFrom s.inputView fuel i))) := by
  induction fuel generalizing i with
  | zero =>
    rw [skipCountFrom, State.inputView_len]
    exact ⟨hi, fun j hj hj' => by omega, .inl rfl⟩
  | succ fuel ih =>
    have hlikely : (s.inputView.get i = 0x47#8 ∧ (s.len.toNat - i ≤ 188 ∨ s.inputView.get (i + 188) = 0x47#8)) ↔
        likelySync s i := by
      rw [likelySync, inputView_get_eq_iff s i (by omega), inputView_get_eq_iff s (i + 188) (by omega)]
    rw [skipCountFrom, State.inputView_len]
    split_ifs with hlt hsync
    · exact ⟨Nat.le_refl i, fun j hj hj' => by omega, .inr ⟨hlt, hlikely.mp hsync⟩⟩
    · obtain ⟨hle, hnone, hend⟩ := ih (i := i + 1) (by omega) hlt
      refine ⟨by omega, fun j hj hj' => ?_, hend⟩
      rcases Nat.eq_or_lt_of_le hj with rfl | hlt'
      · exact mt hlikely.mpr hsync
      · exact hnone j hlt' hj'
    · exact ⟨hi, fun j hj hj' => by omega, .inl rfl⟩

end Sys2Proof.Machine

namespace Sys2Proof.Proofs

open Sys2Proof.Machine Sys2Proof.Claims

/-- Settles O46: the rule of each form on a PID of 13 bits, and BAD_OPERAND as the only cause of an error. -/
theorem fdConfigClearsDetector : Obligations.FdConfigClearsDetector := by
  intro s i k hik
  have hform : ruleOf i = fdConfigRule k ∧ i ∈ fdConfigs ∧ i ∉ brReads ∧ i ≠ .brBits := by
    fin_cases hik <;> exact ⟨rfl, by decide, by decide, by decide⟩
  obtain ⟨hrule, hcfg, hbr, hbits⟩ := hform
  refine ⟨fun h => ?_, fun h => exec_failed ?_⟩
  · rw [exec_eq_command, hrule]
    exact command_ok (fdConfigRule_pid (s := s.beginCommand (encode i)) h k)
  · have hnot : i ≠ .fdPacket := by rintro rfl; exact absurd hcfg (by decide)
    simp [errorOf, hbr, hbits, hcfg, hnot, h]

/-- Settles O47: each branch of the rule before the parsers; the skip is the least by `skipCountFrom_least`. -/
theorem fdPacketPassesOver : Obligations.FdPacketPassesOver := by
  intro s
  refine ⟨fun hc => exec_failed ?_, fun hc hout => exec_failed ?_, fun hc hin hlen => ?_, fun hready hsync => ?_,
    fun hready hsync hnot => ?_⟩
  · simp [errorOf, brReads, hc]
  · have hout' : s.params.bufSize < s.addr.toNat + s.len.toNat := Nat.lt_of_not_le hout
    simp [errorOf, brReads, fdConfigs, viewCommands, hc, hout']
  · rw [exec_fdPacket hc hin, fdPacket, if_pos (by rwa [State.inputView_len])]
    rfl
  · obtain ⟨hc, hin, hlen⟩ := hready
    obtain ⟨hle, hnone, hend⟩ := skipCountFrom_least s (fuel := s.len.toNat) (i := 1) (by omega) (by omega)
    refine ⟨skipCountFrom s.inputView s.len.toNat 1, ?_, hle, hnone, hend⟩
    rw [exec_fdPacket hc hin, fdPacket, if_neg (by rw [State.inputView_len]; omega),
      if_pos (mt (inputView_get_eq_iff s 0 (by omega)).mp hsync), skipCount, State.inputView_len]
    rfl
  · obtain ⟨hc, hin, hlen⟩ := hready
    have hreject : ¬accepts s.fdCfg.pid (tsFields s.inputView) = true := fun h =>
      hnot ⟨hsync, (accepts_inputView s).mp h⟩
    rw [exec_fdPacket hc hin, fdPacket, if_neg (by rw [State.inputView_len]; omega),
      if_neg (not_not.mpr ((inputView_get_eq_iff s 0 (by omega)).mpr hsync))]
    exact congrArg Host.Outcome.next (if_neg hreject)

end Sys2Proof.Proofs
end

section
/-! What FD_PACKET leaves of a processed packet (45_frame_detector.md R192, R196, R211 to R214): the frame and the result record,
the sample taken, and the rate decided from the sorted window. -/

namespace Sys2Proof.Machine

open Sys2Proof.Claims

/-! ## The frame of a processed packet -/

theorem resultWord_setWidth (R : FdResult) : (R.word.setWidth 64 : DWord) = BitVec.ofNat 64 (resultImage R) := by
  rw [← FdResult.word_toNat, BitVec.ofNat_toNat]

/-- A processed packet changes the detector's registers, and RES0, RES1 and STATUS as its result says. -/
theorem State.processed_frame (s : State) :
    s.processed = { s with
      cmd := encode .fdPacket
      status := { quiet s.status with
        valid := true, newFrame := s.parsed.result.newFrame, indepFrame := s.parsed.result.indepFrame }
      res0 := 188, res1 := BitVec.ofNat 64 (resultImage s.parsed.result)
      fdScanner := s.processed.fdScanner, fdH264 := s.processed.fdH264, fdLog2mfn := s.processed.fdLog2mfn
      fdResult := s.parsed.result, fdRate := s.processed.fdRate, fdDuration := s.processed.fdDuration
      fdSamples := s.processed.fdSamples, freeCount := s.processed.freeCount } := by
  rw [← resultWord_setWidth]
  simp only [State.processed]
  rw [postPacket_eq]
  rfl

/-! ## The result record of each parser -/

/-- The result record of a picture of type `pct` found at packet offset `here` (45_frame_detector.md R200). -/
def pictureResult (pct : BitVec 3) (here : Nat) : FdResult :=
  { FdResult.zero with newFrame := true, indepFrame := pct == 1#3, frameType := pct, startOff := BitVec.ofNat 8 here }

/-- Everything the MPEG-2 scan can do: it moves the scanner, and reports a picture or nothing (45_frame_detector.md R200). -/
theorem mpeg2Scan_cases (V : View) (ahead : List Byte) (fuel pos : Nat) (c : ScanState) :
    ∃ scanner, mpeg2Scan V ahead fuel pos c = { c with scanner := scanner } ∨
      ∃ pct here, mpeg2Scan V ahead fuel pos c = { c with scanner := scanner, result := pictureResult pct here } := by
  induction fuel generalizing pos c with
  | zero => exact ⟨c.scanner, .inl rfl⟩
  | succ fuel ih =>
    unfold mpeg2Scan
    simp only
    split_ifs
    · exact ⟨_, .inr ⟨_, _, rfl⟩⟩
    · exact ih _ _
    · exact ⟨c.scanner, .inl rfl⟩

/-- Everything the H.264 scan can do to the result record: it keeps it, or it classifies a slice after an AUD and an SPS and
clears GOT_AUD (45_frame_detector.md R202, R208). -/
theorem h264Scan_cases (V : View) (ahead : List Byte) (fuel pos : Nat) (c : ScanState) :
    (h264Scan V ahead fuel pos c).result = c.result ∨
      ∃ f here, (h264Scan V ahead fuel pos c).result = classifySlice f here ∧
        (h264Scan V ahead fuel pos c).flags.gotAud = false ∧ (h264Scan V ahead fuel pos c).flags.gotSps = true := by
  induction fuel generalizing pos c with
  | zero => exact .inl rfl
  | succ fuel ih =>
    unfold h264Scan
    simp only
    split_ifs with _ _ _ _ hslice
    · exact ih _ _
    · rcases readSps (headerNext V) (headerReader pos ahead false) with ⟨p, H⟩
      simp only
      split_ifs
      · exact .inl rfl
      · exact ih _ _
    · exact .inr ⟨_, _, rfl, rfl, hslice.2.2⟩
    · exact ih _ _
    · exact ih _ _
    · exact .inl rfl

theorem pictureResult_indep (pct : BitVec 3) (here : Nat) :
    (pictureResult pct here).indepFrame = true ↔
      (pictureResult pct here).newFrame = true ∧ (pictureResult pct here).frameType = 1 := by
  simp [pictureResult]

theorem classifySlice_indep (f : SliceFields) (here : Nat) :
    (classifySlice f here).indepFrame = true ↔
      (classifySlice f here).newFrame = true ∧ (classifySlice f here).frameType = 2 := by
  have htype : BitVec.ofNat 3 (f.sliceType % 5) = 2 ↔ f.sliceType % 5 = 2 := by
    rw [← BitVec.toNat_inj, BitVec.toNat_ofNat]
    exact ⟨fun h => by have : f.sliceType % 5 < 5 := Nat.mod_lt _ (by omega); simp at h; omega, fun h => by rw [h]; rfl⟩
  simp only [classifySlice, Bool.and_eq_true, beq_iff_eq, htype]

section

variable {s : State}

theorem State.parsed_audio (h : s.fdCfg.kind = .audio) :
    s.parsed = { s.scanState (tsFields s.inputView) with result := parseAudio (tsFields s.inputView) } := by
  rw [State.parsed, parsePacket, h]

theorem State.parsed_mpeg2 (h : s.fdCfg.kind = .mpeg2) :
    s.parsed = mpeg2Scan s.inputView (lookahead s.inputView s.fdCfg.pid) 188 (scanStart s.inputView (tsFields s.inputView))
      (s.scanState (tsFields s.inputView)) := by
  rw [State.parsed, parsePacket, h]

theorem State.parsed_h264 (h : s.fdCfg.kind = .h264) :
    s.parsed = h264Scan s.inputView (lookahead s.inputView s.fdCfg.pid) 188 (scanStart s.inputView (tsFields s.inputView))
      (s.scanState (tsFields s.inputView)) := by
  rw [State.parsed, parsePacket, h]

/-- The scanner before the packet's first byte (45_frame_detector.md R197). -/
theorem State.scanState_scanner_toNat (s : State) : (s.scanState (tsFields s.inputView)).scanner.toNat = scannerBefore s := by
  rw [State.scanState, tsFields_inputView_pusi, scannerBefore]
  split_ifs <;> rfl

theorem State.parsed_audio_result (h : s.fdCfg.kind = .audio) :
    s.parsed.result =
      if pusiAt s 0 then
        { newFrame := true, indepFrame := true, frameType := 0, fieldPic := false, bottomField := false
          startOff := BitVec.ofNat 8 (offAt s 0) }
      else
        { newFrame := false, indepFrame := false, frameType := 0, fieldPic := false, bottomField := false, startOff := 0 } := by
  rw [State.parsed_audio h, ← tsFields_inputView_pusi, ← tsFields_inputView_off]
  rfl

theorem State.parsed_mpeg2_result (h : s.fdCfg.kind = .mpeg2) :
    (s.parsed.result.indepFrame = true ↔ s.parsed.result.newFrame = true ∧ s.parsed.result.frameType = 1) ∧
      s.parsed.result.fieldPic = false ∧ s.parsed.result.bottomField = false := by
  rw [State.parsed_mpeg2 h]
  obtain ⟨scanner, hscan | ⟨pct, here, hscan⟩⟩ := mpeg2Scan_cases s.inputView (lookahead s.inputView s.fdCfg.pid) 188
    (scanStart s.inputView (tsFields s.inputView)) (s.scanState (tsFields s.inputView)) <;> rw [hscan]
  · exact ⟨by simp [State.scanState, FdResult.zero], rfl, rfl⟩
  · exact ⟨pictureResult_indep pct here, rfl, rfl⟩

theorem State.parsed_h264_result (h : s.fdCfg.kind = .h264) :
    (s.parsed.result.indepFrame = true ↔ s.parsed.result.newFrame = true ∧ s.parsed.result.frameType = 2) ∧
      (s.parsed.result.newFrame = true → s.parsed.flags.gotAud = false ∧ s.parsed.flags.gotSps = true) := by
  rw [State.parsed_h264 h]
  rcases h264Scan_cases s.inputView (lookahead s.inputView s.fdCfg.pid) 188 (scanStart s.inputView (tsFields s.inputView))
    (s.scanState (tsFields s.inputView)) with hscan | ⟨f, here, hscan, haud, hsps⟩ <;> rw [hscan]
  · exact ⟨by simp [State.scanState, FdResult.zero], nofun⟩
  · exact ⟨classifySlice_indep f here, fun _ => ⟨haud, hsps⟩⟩

/-- The other parsers keep the H.264 registers. -/
theorem State.parsed_keeps_h264 (h : s.fdCfg.kind ≠ .h264) :
    s.parsed.flags = s.fdH264 ∧ s.parsed.log2mfn = s.fdLog2mfn := by
  cases hk : s.fdCfg.kind with
  | audio => rw [State.parsed_audio hk]; exact ⟨rfl, rfl⟩
  | mpeg2 =>
    rw [State.parsed_mpeg2 hk]
    obtain ⟨scanner, hscan | ⟨pct, here, hscan⟩⟩ := mpeg2Scan_cases s.inputView (lookahead s.inputView s.fdCfg.pid) 188
      (scanStart s.inputView (tsFields s.inputView)) (s.scanState (tsFields s.inputView)) <;> rw [hscan] <;> exact ⟨rfl, rfl⟩
  | h264 => exact absurd hk h

end

/-! ## The sample taken -/

/-- The state the sampling starts from: the parser's findings stored, the result noted in FD_RATE (45_frame_detector.md R211). -/
def State.noted (s : State) : State :=
  { s.parsed.store (s.beginCommand (encode .fdPacket)) with fdRate := s.fdRate.noteResult s.parsed.result }

/-- The PES header at the payload start of the packet at the start of the input view. -/
def State.pesHeader (s : State) : View := s.inputView.sub (offAt s 0) (188 - offAt s 0)

theorem State.pesHeader_get (s : State) {i : Nat} (hi : i < 188 - offAt s 0) :
    s.pesHeader.get i = BitVec.ofNat 8 (byteAt s (offAt s 0 + i)) := by
  rw [State.pesHeader, View.sub_get, if_pos hi, State.inputView_get_eq]

@[simp] theorem State.pesHeader_len (s : State) : s.pesHeader.len = 188 - offAt s 0 := View.sub_len _ _ _

theorem State.pesHeader_hasTs (s : State) :
    hasTs s.pesHeader .pts = true ↔ hasStamp s .pts (offAt s 0) (188 - offAt s 0) := by
  have hget : ∀ i < s.pesHeader.len, (s.pesHeader.get i).toNat = byteAt s (offAt s 0 + i) := fun i hi => by
    rw [s.pesHeader_get (by rwa [State.pesHeader_len] at hi), ofNat_byteAt_toNat]
  rw [hasTs_iff hget, State.pesHeader_len]

/-- The PTS of the header (43_ts_pes.md R160). -/
theorem State.pesHeader_stampAt {s : State} (h : hasStamp s .pts (offAt s 0) (188 - offAt s 0)) :
    (s.pesHeader.stampAt 9).toNat = stampAt s (offAt s 0 + 9) := by
  have hlen : 9 + 5 ≤ 188 - offAt s 0 := hasStamp_len h
  rw [View.stampAt, tsDecode_toNat]
  iterate 5 rw [s.pesHeader_get (by omega), ofNat_byteAt_toNat]
  rfl

/-- The step after the parser takes the PTS of the packet's PES header, or nothing (45_frame_detector.md R211). -/
theorem State.processed_eq (s : State) :
    s.processed = reportPacket s.parsed.result
      (if !s.fdRate.synced && pusiAt s 0 && s.noted.fdRate.iframeSeen && hasTs s.pesHeader .pts then
        addSample (s.pesHeader.stampAt 9) s.noted
      else s.noted) := by
  rw [State.processed, postPacket, tsFields_inputView_pusi, tsFields_inputView_off]
  rfl

/-- Everything one more sample can do (45_frame_detector.md R212): it is kept, and a full window decides the rate. -/
theorem addSample_cases (p : Stamp) (s : State) :
    ((addSample p s).fdSamples.length = s.params.ptsWindow ∧
        addSample p s = decideRate { s with fdSamples := (addSample p s).fdSamples }) ∨
      ((addSample p s).fdSamples.length ≠ s.params.ptsWindow ∧
        addSample p s = { s with fdSamples := (addSample p s).fdSamples }) := by
  rw [addSample_fdSamples]
  by_cases h : ((if clockWrapped s.fdSamples p then [] else s.fdSamples) ++ [p]).length = s.params.ptsWindow
  · exact .inl ⟨h, if_pos h⟩
  · exact .inr ⟨h, if_neg h⟩

@[simp] theorem addSample_iframeSeen (p : Stamp) (s : State) : (addSample p s).fdRate.iframeSeen = s.fdRate.iframeSeen := by
  rcases addSample_cases p s with ⟨-, h⟩ | ⟨-, h⟩ <;> exact congrArg (·.fdRate.iframeSeen) h

@[simp] theorem addSample_fieldCoded (p : Stamp) (s : State) : (addSample p s).fdRate.fieldCoded = s.fdRate.fieldCoded := by
  rcases addSample_cases p s with ⟨-, h⟩ | ⟨-, h⟩ <;> exact congrArg (·.fdRate.fieldCoded) h

/-- A scanning detector is in sync after a sample just when the window is full; until then the rate is undecided. -/
theorem addSample_synced {p : Stamp} {s : State} (h : s.fdRate.synced = false) :
    ((addSample p s).fdRate.synced = true ↔ (addSample p s).fdSamples.length = s.params.ptsWindow) ∧
      ((addSample p s).fdRate.synced = false →
        (addSample p s).fdDuration = s.fdDuration ∧ (addSample p s).fdRate.rateCode = s.fdRate.rateCode) := by
  rcases addSample_cases p s with ⟨hlen, ha⟩ | ⟨hlen, ha⟩
  · have hs : (addSample p s).fdRate.synced = true := by rw [ha]; rfl
    exact ⟨iff_of_true hs hlen, fun hf => absurd (hs.symm.trans hf) (by decide)⟩
  · have hs : (addSample p s).fdRate.synced = false := by rw [ha]; exact h
    exact ⟨iff_of_false (ne_true_of_eq_false hs) hlen, fun _ => by rw [ha]; exact ⟨rfl, rfl⟩⟩

/-- A sample that puts the detector in sync has filled the window and decided the rate. -/
theorem addSample_decides {p : Stamp} {s : State} (h : s.fdRate.synced = false) (hs : (addSample p s).fdRate.synced = true) :
    (addSample p s).fdSamples.length = s.params.ptsWindow ∧
      (addSample p s).fdDuration = durationOf s (measuredDelta (addSample p s).fdSamples) ∧
      (addSample p s).fdRate.rateCode = rateCodeOf s.fdCfg.kind (measuredDelta (addSample p s).fdSamples) := by
  rcases addSample_cases p s with ⟨hlen, ha⟩ | ⟨-, ha⟩
  · exact ⟨hlen, congrArg State.fdDuration ha, congrArg (·.fdRate.rateCode) ha⟩
  · rw [ha] at hs
    exact absurd (h.symm.trans hs) (by decide)

theorem State.processed_iframeSeen (s : State) : s.processed.fdRate.iframeSeen = s.noted.fdRate.iframeSeen := by
  rw [State.processed_eq]
  split_ifs
  · exact addSample_iframeSeen _ _
  · rfl

theorem State.processed_fieldCoded (s : State) : s.processed.fdRate.fieldCoded = s.noted.fdRate.fieldCoded := by
  rw [State.processed_eq]
  split_ifs
  · exact addSample_fieldCoded _ _
  · rfl

/-- The model samples just when the claims say so (45_frame_detector.md R211). -/
theorem sampling_processed (s : State) :
    sampling s s.processed ↔
      (!s.fdRate.synced && pusiAt s 0 && s.noted.fdRate.iframeSeen && hasTs s.pesHeader .pts) = true := by
  simp only [sampling, State.processed_iframeSeen, Bool.and_eq_true, Bool.not_eq_true', State.pesHeader_hasTs, and_assoc]

theorem State.processed_of_sampling {s : State} (h : sampling s s.processed) :
    s.processed = reportPacket s.parsed.result (addSample (s.pesHeader.stampAt 9) s.noted) := by
  conv_lhs => rw [State.processed_eq, if_pos ((sampling_processed s).mp h)]

theorem State.processed_of_not_sampling {s : State} (h : ¬sampling s s.processed) :
    s.processed = reportPacket s.parsed.result s.noted := by
  conv_lhs => rw [State.processed_eq, if_neg (mt (sampling_processed s).mpr h)]

/-- The clock wrapped between two samples (45_frame_detector.md R212, 44_timestamp.md R184). -/
theorem wrapped_iff (last p : Stamp) : (decide (p.toNat < last.toNat) && stampAfter last p) = true ↔ wrapped last.toNat p.toNat := by
  have hlast := last.isLt
  have hp := p.isLt
  simp only [Bool.and_eq_true, decide_eq_true_eq, wrapped, stampAfter]
  refine and_congr_right fun hlt => ?_
  have hres : stampResidue last p = p.toNat + 2 ^ 33 - last.toNat := by
    unfold stampResidue
    omega
  simp only [stampDiff, hres]
  split_ifs <;> omega

theorem clockWrapped_iff (samples : List Stamp) (p : Stamp) :
    clockWrapped samples p = true ↔ ∃ last, samples.getLast? = some last ∧ wrapped last.toNat p.toNat := by
  unfold clockWrapped
  cases samples.getLast? with
  | none => simp
  | some last => simpa using wrapped_iff last p

/-! ## The rate decided -/

theorem insertAscending_eq (x : Nat) (l : List Nat) : insertAscending x l = l.orderedInsert (· ≤ ·) x := by
  induction l with
  | nil => rfl
  | cons y ys ih => rw [insertAscending, List.orderedInsert_cons, ih]

theorem sortAscending_eq (l : List Nat) : sortAscending l = l.insertionSort (· ≤ ·) := by
  induction l with
  | nil => rfl
  | cons x xs ih => rw [sortAscending, insertAscending_eq, ih, List.insertionSort_cons]

/-- A list sorted in whatever way is the model's sorted list. -/
theorem eq_sortAscending {S l : List Nat} (hperm : S.Perm l) (hsorted : S.Pairwise (· ≤ ·)) : S = sortAscending l := by
  rw [sortAscending_eq]
  exact (hperm.trans (List.perm_insertionSort (· ≤ ·) l).symm).eq_of_pairwise (fun _ _ _ _ => Nat.le_antisymm) hsorted
    (List.pairwise_insertionSort (· ≤ ·) l)

theorem neighbourDeltas_eq (l : List Nat) : neighbourDeltas l = deltasOf l := by
  induction l with
  | nil => rfl
  | cons x l ih =>
    cases l with
    | nil => rfl
    | cons y rest =>
      have htail : deltasOf (x :: y :: rest) = (if y ≠ x then [y - x] else []) ++ deltasOf (y :: rest) := by
        simp only [deltasOf, List.tail_cons, List.zip_cons_cons, List.filter_cons, bne_iff_ne]
        by_cases hxy : x = y
        · rw [if_neg (not_not.mpr hxy), if_neg (not_not.mpr hxy.symm), List.nil_append]
        · rw [if_pos hxy, if_pos (Ne.symm hxy), List.map_cons, List.singleton_append]
      rw [neighbourDeltas, ih, htail]
      split_ifs <;> rfl

theorem occurrences_eq_count (d : Nat) (l : List Nat) : occurrences d l = l.count d := by
  induction l with
  | nil => rfl
  | cons x xs ih => simp [occurrences, ih, List.count_cons, Nat.add_comm]

/-- `d` is as good a delta as `e`: it occurs more often, or as often and is no greater (45_frame_detector.md R213). -/
def AsGood (ds : List Nat) (d e : Nat) : Prop := ds.count e < ds.count d ∨ (ds.count e = ds.count d ∧ d ≤ e)

theorem AsGood.trans {ds : List Nat} {a b c : Nat} (h₁ : AsGood ds a b) (h₂ : AsGood ds b c) : AsGood ds a c := by
  unfold AsGood at *
  omega

theorem betterDelta_asGood (ds : List Nat) (a b : Nat) :
    AsGood ds (betterDelta ds a b) a ∧ AsGood ds (betterDelta ds a b) b := by
  unfold betterDelta AsGood
  simp only [occurrences_eq_count]
  split_ifs <;> omega

/-- The best of a list is one of it and as good as all of it. -/
theorem bestDeltaIn_some {ds l : List Nat} (hne : l ≠ []) :
    ∃ b, bestDeltaIn ds l = some b ∧ b ∈ l ∧ ∀ e ∈ l, AsGood ds b e := by
  induction l with
  | nil => exact absurd rfl hne
  | cons d rest ih =>
    by_cases hrest : rest = []
    · subst hrest
      exact ⟨d, rfl, by simp, by simp [AsGood]⟩
    · obtain ⟨b, hb, hmem, hgood⟩ := ih hrest
      obtain ⟨hd, hb'⟩ := betterDelta_asGood ds d b
      refine ⟨betterDelta ds d b, by rw [bestDeltaIn, hb], ?_, fun e he => ?_⟩
      · rcases betterDelta_eq ds d b with h | h <;> rw [h] <;> simp [hmem]
      · rcases List.mem_cons.mp he with rfl | he
        · exact hd
        · exact hb'.trans (hgood e he)

/-- The model's delta is the mode of the deltas, the least of those tied. -/
theorem bestDelta_of_isMode {ds : List Nat} {d : Nat} (h : isMode ds d) : bestDelta ds = some d := by
  obtain ⟨hmem, hall⟩ := h
  obtain ⟨b, hb, hbmem, hbest⟩ := bestDeltaIn_some (ds := ds) (List.ne_nil_of_mem hmem)
  have h₁ := hall b hbmem
  have h₂ := hbest d hmem
  unfold AsGood at h₂
  obtain rfl : b = d := by omega
  exact hb

theorem nearTicks_iff (d r : Nat) (hr : 1 ≤ r) : nearTicks d r = true ↔ d = r - 1 ∨ d = r ∨ d = r + 1 := by
  simp only [nearTicks, Bool.and_eq_true, decide_eq_true_eq]
  omega

/-- RATE_CODE and FD_DURATION of a measured delta by R214's rows. -/
theorem rateOf_eq (kind : Kind) (defdur d : Nat) :
    rateOf kind defdur d =
      (rateCodeOf kind (some d), if rateCodeOf kind (some d) = .defaultUsed then defdur else d) := by
  have h25 := nearTicks_iff d 3600 (by omega)
  have h30 := nearTicks_iff d 3003 (by omega)
  have h50 := nearTicks_iff d 1800 (by omega)
  cases kind <;> simp only [rateOf, rateCodeOf, h25, h30, h50, reduceCtorEq, if_true, if_false] <;>
    split_ifs <;> trivial

theorem durationOf_some (s : State) (d : Nat) :
    durationOf s (some d) =
      if rateCodeOf s.fdCfg.kind (some d) = .defaultUsed then s.fdDefdur
      else if d < 2 ^ 32 then BitVec.ofNat 32 d else Config.freeDuration s.freeCount := by
  unfold durationOf
  cases rateCodeOf s.fdCfg.kind (some d) <;> rfl

theorem rateCodeOf_none (kind : Kind) : rateCodeOf kind none = .defaultUsed := by
  cases kind <;> rfl

theorem durationOf_none (s : State) : durationOf s none = s.fdDefdur := by
  unfold durationOf
  rw [rateCodeOf_none]

/-- A rule that puts the detector in sync has taken a sample and decided (45_frame_detector.md R211 to R213). -/
theorem fdPacket_decides {V : View} {s : State} (h : s.fdRate.synced = false) (ht : (fdPacket V s).fdRate.synced = true) :
    (fdPacket V s).fdSamples.length = s.params.ptsWindow ∧
      (fdPacket V s).fdDuration = durationOf s (measuredDelta (fdPacket V s).fdSamples) ∧
      (fdPacket V s).fdRate.rateCode = rateCodeOf s.fdCfg.kind (measuredDelta (fdPacket V s).fdSamples) := by
  rcases fdPacket_cases V s with ⟨n, m, x, y, hu⟩ | hu <;> rw [hu] at ht ⊢
  · rw [h] at ht
    cases ht
  · rw [processPacket_eq] at ht ⊢
    generalize parsePacket V (tsFields V) s.fdCfg (s.scanState (tsFields V)) = c at ht ⊢
    rcases postPacket_cases V (tsFields V) c.result (c.store s) with hp | ⟨-, -, p, hp⟩ <;> rw [hp] at ht ⊢
    · exact absurd (h.symm.trans ht) (by decide)
    · exact addSample_decides (s := { c.store s with fdRate := (c.store s).fdRate.noteResult c.result }) h ht

/-- An FD_PACKET that puts the detector in sync has filled the window and decided the rate. -/
theorem exec_fdPacket_decides {s t : State} (hs : s.fdRate.synced = false) (ht : exec .fdPacket s = .next t)
    (hsync : t.fdRate.synced = true) :
    t.fdSamples.length = s.params.ptsWindow ∧ t.fdDuration = durationOf s (measuredDelta t.fdSamples) ∧
      t.fdRate.rateCode = rateCodeOf s.fdCfg.kind (measuredDelta t.fdSamples) := by
  rw [exec_eq_command] at ht
  rcases command_cases ht with hok | ⟨e, -, rfl⟩
  · obtain rfl := fdPacketRule_ok hok
    exact fdPacket_decides (s := s.beginCommand (encode .fdPacket)) hs hsync
  · exact absurd (hs.symm.trans hsync) (by decide)

/-- FD_DURATION of a measured delta by R214's rows, where it fits the register. -/
theorem durationOf_toNat {s : State} {d : Nat} (hfit : (rateOf s.fdCfg.kind s.fdDefdur.toNat d).2 < 2 ^ 32) :
    (durationOf s (some d)).toNat = (rateOf s.fdCfg.kind s.fdDefdur.toNat d).2 := by
  rw [rateOf_eq] at hfit ⊢
  rw [durationOf_some]
  dsimp only at hfit ⊢
  split_ifs at hfit ⊢
  · rfl
  · rw [BitVec.toNat_ofNat, Nat.mod_eq_of_lt hfit]

end Sys2Proof.Machine

namespace Sys2Proof.Proofs

open Sys2Proof.Machine Sys2Proof.Claims

/-- Settles O48: the frame of a processed packet, and what each parser's result record can be. -/
theorem fdPacketProcesses : Obligations.FdPacketProcesses := by
  intro s h ha
  refine ⟨s.processed, exec_fdPacket_accepted h ha, s.processed_frame, fun hk => ⟨State.parsed_audio_result hk, ?_⟩,
    State.parsed_mpeg2_result, fun hk => ?_, fun hk => ?_⟩
  · rw [State.processed_fdScanner, State.parsed_audio hk]
    exact s.scanState_scanner_toNat
  · simp only [State.processed_fdH264, State.processed_fdResult]
    exact State.parsed_h264_result hk
  · rw [State.processed_fdH264, State.processed_fdLog2mfn]
    exact State.parsed_keeps_h264 hk

/-- Settles O56: the flags are the noted ones, and the packet's PTS is added just where R211 says. -/
theorem ptsSampling : Obligations.PtsSampling := by
  intro s t h ha ht
  obtain rfl := eq_processed h ha ht
  refine ⟨?_, ?_, fun hno => ?_, fun hyes p hp => ?_⟩
  · rw [State.processed_iframeSeen]
    simp [State.noted, FdRate.noteResult]
  · rw [State.processed_fieldCoded]
    simp [State.noted, FdRate.noteResult]
  · rw [State.processed_of_not_sampling hno]
    exact ⟨rfl, rfl, rfl, rfl⟩
  · obtain ⟨hsync, -, -, hstamp⟩ := id hyes
    have hp' : p = (s.pesHeader.stampAt 9).toNat := hp.trans (State.pesHeader_stampAt hstamp).symm
    rw [State.processed_of_sampling hyes, hp']
    have hsamples : (addSample (s.pesHeader.stampAt 9) s.noted).fdSamples =
        (if clockWrapped s.fdSamples (s.pesHeader.stampAt 9) then [] else s.fdSamples) ++ [s.pesHeader.stampAt 9] :=
      addSample_fdSamples _ _
    have hwrap := clockWrapped_iff s.fdSamples (s.pesHeader.stampAt 9)
    refine ⟨fun last hlast hw => ?_, fun hno => ?_, addSample_synced hsync⟩
    · rw [if_pos (hwrap.mpr ⟨last, hlast, hw⟩)] at hsamples
      exact congrArg (List.map (·.toNat)) hsamples
    · rw [if_neg (mt hwrap.mp fun ⟨last, hlast, hw⟩ => hno last hlast hw)] at hsamples
      exact (congrArg (List.map (·.toNat)) hsamples).trans List.map_append

/-- Settles O57: the sorted window is unique, and the best of its deltas is their least mode. -/
theorem rateDecision : Obligations.RateDecision := by
  intro s t S hs ht hsynced hperm hsorted
  obtain ⟨hlen, hdur, hcode⟩ := exec_fdPacket_decides hs ht hsynced
  rw [measuredDelta, ← eq_sortAscending hperm hsorted, neighbourDeltas_eq] at hdur hcode
  refine ⟨hlen, fun hnone => ?_, fun d hd => ?_⟩
  · rw [hnone] at hdur hcode
    exact ⟨hdur.trans (durationOf_none s), hcode.trans (rateCodeOf_none _)⟩
  · rw [bestDelta_of_isMode hd] at hdur hcode
    rw [hdur, hcode]
    exact ⟨by rw [rateOf_eq], durationOf_toNat⟩

end Sys2Proof.Proofs
end

section
/-! The scan of a packet in the words of the claims (45_frame_detector.md R197 to R200): where it starts, the scanner as the last
four bytes, the header reader's bytes, the lookahead list; then the MPEG-2 parser. -/

namespace Sys2Proof.Machine

open Sys2Proof.Claims

/-! ## Where the scan starts -/

theorem State.pesHeader_get_toNat (s : State) (i : Nat) : (s.pesHeader.get i).toNat = payloadByte s i := by
  rw [State.pesHeader, View.sub_get, payloadByte]
  split_ifs
  · exact s.inputView_get_toNat _
  · rfl

theorem PesKind.analyses_iff (k : PesKind) : k = .mpeg1 ∨ k = .mpeg2 ↔ k.code = 2 ∨ k.code = 3 := by
  cases k <;> decide

/-- The scan start of the model is the claims' (45_frame_detector.md R198). -/
theorem scanStart_inputView (s : State) : scanStart s.inputView (tsFields s.inputView) = startAt s := by
  have htriple := analyze_triple s.pesHeader_get_toNat (188 - offAt s 0)
  rw [scanStart, startAt, ← htriple, tsFields_inputView_pusi, tsFields_inputView_off]
  simp only [PesKind.analyses_iff, ite_and]
  rfl

/-! ## The scanner -/

theorem scanByte_toNat (w : Word) (b : Byte) : (scanByte w b).toNat = w.toNat % 2 ^ 24 * 256 + b.toNat := by
  have hw := w.isLt
  have hb := b.isLt
  rw [scanByte, BitVec.toNat_or, BitVec.toNat_shiftLeft, BitVec.toNat_setWidth, Nat.shiftLeft_eq,
    Nat.mod_eq_of_lt (by omega : b.toNat < 2 ^ 32), or_eq_add_of_dvd (n := 8) (by omega) hb]
  omega

theorem scannerBefore_lt (s : State) : scannerBefore s < 2 ^ 32 := by
  rw [scannerBefore]
  split_ifs
  · decide
  · exact s.fdScanner.isLt

theorem scanned_lt (s : State) (pos j : Nat) : scanned s pos j < 256 := by
  rw [scanned]
  split_ifs
  · exact byteAt_lt s _
  · exact Nat.mod_lt _ (by omega)

/-- FD_SCANNER before offset `pos` is scanned. -/
def scannerIn (s : State) (pos : Nat) : Nat := if startAt s < pos then scannerAt s (pos - 1) else scannerBefore s

section

variable {s : State} {pos : Nat} (h : startAt s ≤ pos)
include h

theorem scanned_zero : scanned s pos 0 = byteAt s pos := if_pos h

/-- The byte scanned one step further back is the one the scanner held before (45_frame_detector.md R197). -/
theorem scanned_succ (j : Nat) :
    scanned s pos (j + 1) = if startAt s < pos then scanned s (pos - 1) j else scannerBefore s / 256 ^ j % 256 := by
  simp only [scanned]
  split_ifs with h1 h2 h3 h3
  · rw [Nat.sub_sub, Nat.add_comm 1]
  · omega
  · omega
  · omega
  · rw [show j + 1 - (pos + 1 - startAt s) = j - (pos - 1 + 1 - startAt s) by omega]
  · rw [show j + 1 - (pos + 1 - startAt s) = j by omega]

theorem scannerIn_succ : scannerIn s (pos + 1) = scannerAt s pos := if_pos (by omega)

/-- The scanner takes in one byte and drops the oldest (45_frame_detector.md R197). -/
theorem scannerAt_eq : scannerAt s pos = scannerIn s pos % 2 ^ 24 * 256 + byteAt s pos := by
  rw [scannerAt, scannerIn, scanned_zero h, scanned_succ h, scanned_succ h, scanned_succ h]
  split_ifs
  · have h2 := scanned_lt s (pos - 1) 2
    have h1 := scanned_lt s (pos - 1) 1
    have h0 := scanned_lt s (pos - 1) 0
    rw [scannerAt]
    omega
  · omega

/-- Scanning the packet's next byte. -/
theorem scanByte_inputView {w : Word} (hw : w.toNat = scannerIn s pos) :
    (scanByte w (s.inputView.get pos)).toNat = scannerAt s pos := by
  rw [scanByte_toNat, hw, State.inputView_get_toNat, scannerAt_eq h]

end

theorem scannerIn_startAt (s : State) : scannerIn s (startAt s) = scannerBefore s := if_neg (lt_irrefl _)

/-- The scanner at the packet's end. -/
theorem scannerIn_end (s : State) : scannerIn s (max 188 (startAt s)) = scannerEnd s := by
  rw [scannerIn, scannerEnd]
  rcases Nat.lt_or_ge (startAt s) 188 with h | h
  · rw [max_eq_left h.le, if_pos h]
  · rw [max_eq_right h, if_neg (lt_irrefl _), if_neg (by omega)]

/-! ## The header reader's source -/

/-- The bytes a header reader has still to fetch: the rest of the packet, then the lookahead list (45_frame_detector.md R199). -/
def headerRest (V : View) (x : HeaderSource) : List Byte :=
  ((List.range (188 - x.pos)).map fun i => V.get (x.pos + i)) ++ x.ahead

theorem headerRest_inside {V : View} {x : HeaderSource} (h : x.pos < 188) :
    headerRest V x = V.get x.pos :: headerRest V { x with pos := x.pos + 1 } := by
  have hn : 188 - x.pos = 188 - (x.pos + 1) + 1 := by omega
  simp only [headerRest, hn, List.range_succ_eq_map, List.map_cons, List.map_map, List.cons_append, Nat.add_zero]
  congr 3
  funext i
  simp only [Function.comp_apply, Nat.succ_eq_add_one]
  congr 1
  omega

theorem headerRest_outside {V : View} {x : HeaderSource} (h : 188 ≤ x.pos) : headerRest V x = x.ahead := by
  rw [headerRest, Nat.sub_eq_zero_of_le h]
  rfl

theorem headerNext_inside {V : View} {x : HeaderSource} (h : x.pos < 188) :
    headerNext V x = (some (V.get x.pos), { x with pos := x.pos + 1 }) := if_pos h

theorem headerNext_outside {V : View} {x : HeaderSource} (h : 188 ≤ x.pos) :
    headerNext V x = (x.ahead.head?, { x with left := true, ahead := x.ahead.tail }) := by
  obtain ⟨pos, left, _ | ⟨b, bs⟩⟩ := x <;> exact if_neg (Nat.not_lt.mpr h)

theorem headerNext_lists (V : View) : Lists (headerNext V) (headerRest V) where
  head x := by
    rcases Nat.lt_or_ge x.pos 188 with h | h
    · rw [headerNext_inside h, headerRest_inside h]; rfl
    · rw [headerNext_outside h, headerRest_outside h]
  tail x := by
    rcases Nat.lt_or_ge x.pos 188 with h | h
    · rw [headerNext_inside h, headerRest_inside h]; rfl
    · rw [headerNext_outside h, headerRest_outside h]; exact headerRest_outside h

/-- A reader made at `pos` reads the packet after it, then the lookahead list. -/
theorem headerRest_headerReader (s : State) (pos : Nat) (raw : Bool) :
    headerRest s.inputView (headerReader pos (lookahead s.inputView s.fdCfg.pid) raw).src = headerBytes s pos := by
  have hn : 188 - (pos + 1) = 187 - pos := by omega
  simp only [headerRest, headerReader, headerBytes, packetAfter, State.inputView_get_eq, hn]

theorem Lists.readByte_byte {σ : Type} {next : Source σ} {rest : σ → List Byte} (h : Lists next rest) (r : Reader σ) :
    (readByte next r).1 = (r.bytesLeft rest).headD 0 :=
  h.fetch_byte { r with bits := { r.bits with nbits := 0 } }

theorem Lists.readByte_bytesLeft {σ : Type} {next : Source σ} {rest : σ → List Byte} (h : Lists next rest) (r : Reader σ) :
    (readByte next r).2.bytesLeft rest = (r.bytesLeft rest).tail :=
  h.fetch_bytesLeft { r with bits := { r.bits with nbits := 0 } }

/-- picture_coding_type stands in the second byte after the start code (45_frame_detector.md R200). -/
theorem readPictureType_toNat (s : State) (pos : Nat) :
    (readPictureType s.inputView (headerReader pos (lookahead s.inputView s.fdCfg.pid) true)).1.toNat =
      ((headerBytes s pos).getD 1 0).toNat / 8 % 8 := by
  have hlists := headerNext_lists s.inputView
  have hread : (readPictureType s.inputView (headerReader pos (lookahead s.inputView s.fdCfg.pid) true)).1 =
      (readByte (headerNext s.inputView) (readByte (headerNext s.inputView)
        (headerReader pos (lookahead s.inputView s.fdCfg.pid) true)).2).1.extractLsb' 3 3 := rfl
  have hleft : (headerReader pos (lookahead s.inputView s.fdCfg.pid) true).bytesLeft (headerRest s.inputView) =
      headerBytes s pos := headerRest_headerReader s pos true
  have hsecond : (headerBytes s pos).tail.headD 0 = (headerBytes s pos).getD 1 0 := by
    rcases headerBytes s pos with _ | ⟨a, _ | ⟨b, l⟩⟩ <;> rfl
  rw [hread, hlists.readByte_byte, hlists.readByte_bytesLeft, hleft, hsecond, BitVec.extractLsb'_toNat,
    Nat.shiftRight_eq_div_pow]

/-! ## The MPEG-2 scan -/

/-- From `pos` on the scan reports the first offset where the last four bytes are a picture start code, or comes to the packet's
end (45_frame_detector.md R200). -/
theorem mpeg2Scan_spec (s : State) {fuel pos : Nat} {c : ScanState} (hpos : startAt s ≤ pos) (hfuel : 188 ≤ fuel + pos)
    (hc : c.scanner.toNat = scannerIn s pos) :
    (∃ here, pos ≤ here ∧ here < 188 ∧ scannerAt s here = 0x100 ∧ (∀ q, pos ≤ q → q < here → scannerAt s q ≠ 0x100) ∧
      mpeg2Scan s.inputView (lookahead s.inputView s.fdCfg.pid) fuel pos c =
        { c with
          scanner := 0x100
          result := pictureResult
            (readPictureType s.inputView (headerReader here (lookahead s.inputView s.fdCfg.pid) true)).1 here }) ∨
    ((∀ q, pos ≤ q → q < 188 → scannerAt s q ≠ 0x100) ∧
      ∃ w : Word, w.toNat = scannerIn s (max 188 pos) ∧
        mpeg2Scan s.inputView (lookahead s.inputView s.fdCfg.pid) fuel pos c = { c with scanner := w }) := by
  induction fuel generalizing pos c with
  | zero =>
    exact .inr ⟨fun q hq hq' => by omega, c.scanner, by rw [hc, max_eq_right (by omega)], rfl⟩
  | succ fuel ih =>
    have hscan := scanByte_inputView hpos hc
    have hmatch : scanByte c.scanner (s.inputView.get pos) = 0x100#32 ↔ scannerAt s pos = 0x100 := by
      rw [← hscan, ← BitVec.toNat_inj]
      rfl
    unfold mpeg2Scan
    simp only
    split_ifs with hin hcode
    · exact .inl ⟨pos, Nat.le_refl _, hin, hmatch.mp hcode, fun q hq hq' => by omega, by rw [hcode]; rfl⟩
    · have hnext : (scanByte c.scanner (s.inputView.get pos)).toNat = scannerIn s (pos + 1) :=
        hscan.trans (scannerIn_succ hpos).symm
      have hnot := mt hmatch.mpr hcode
      rcases ih (c := { c with scanner := scanByte c.scanner (s.inputView.get pos) }) (by omega) (by omega) hnext with
        ⟨here, hle, hlt, hat, hfirst, hres⟩ | ⟨hnone, w, hw, hres⟩
      · refine .inl ⟨here, by omega, hlt, hat, fun q hq hq' => ?_, hres⟩
        rcases Nat.eq_or_lt_of_le hq with rfl | hq
        · exact hnot
        · exact hfirst q hq hq'
      · refine .inr ⟨fun q hq hq' => ?_, w, ?_, hres⟩
        · rcases Nat.eq_or_lt_of_le hq with rfl | hq
          · exact hnot
          · exact hnone q hq hq'
        · rw [hw, max_eq_left (by omega), max_eq_left (by omega)]
    · exact .inr ⟨fun q hq hq' => by omega, c.scanner, by rw [hc, max_eq_right (by omega)], rfl⟩

/-- The scan of an MPEG-2 packet, from its start. -/
theorem State.parsed_mpeg2_spec {s : State} (hk : s.fdCfg.kind = .mpeg2) :
    (∃ here, scans s here ∧ scannerAt s here = 0x100 ∧ (∀ q < here, scans s q → scannerAt s q ≠ 0x100) ∧
      s.parsed.scanner = 0x100 ∧
      s.parsed.result = pictureResult
        (readPictureType s.inputView (headerReader here (lookahead s.inputView s.fdCfg.pid) true)).1 here) ∨
    ((∀ q, scans s q → scannerAt s q ≠ 0x100) ∧ s.parsed.scanner.toNat = scannerEnd s ∧ s.parsed.result = FdResult.zero) := by
  have hstart := s.scanState_scanner_toNat.trans (scannerIn_startAt s).symm
  rw [State.parsed_mpeg2 hk, scanStart_inputView]
  rcases mpeg2Scan_spec s (fuel := 188) (Nat.le_refl _) (by omega) hstart with
    ⟨here, hle, hlt, hat, hfirst, hres⟩ | ⟨hnone, w, hw, hres⟩ <;> rw [hres]
  · exact .inl ⟨here, ⟨hle, hlt⟩, hat, fun q hq hs => hfirst q hs.1 hq, rfl, rfl⟩
  · exact .inr ⟨fun q hs => hnone q hs.1 hs.2, hw.trans (scannerIn_end s), rfl⟩

/-! ## The lookahead list -/

theorem View.bytes_eq_map (V : View) : V.bytes = (List.range V.len).map V.get := by
  refine List.ext_getElem (by simp [View.len]) fun i h₁ h₂ => ?_
  simp [View.get, h₁]

/-- The payload bytes of a whole packet. -/
theorem packetAt_payload (s : State) {k : Nat} (hk : (k + 1) * 188 ≤ s.len.toNat) (off : Nat) :
    (packetAt s.inputView k).bytes.drop off =
      (List.range (188 - off)).map fun i => BitVec.ofNat 8 (byteAt s (k * 188 + off + i)) := by
  have hlen : (packetAt s.inputView k).len = 188 := by rw [packetAt_len, State.inputView_len]; omega
  rw [View.bytes_eq_map, hlen]
  refine List.ext_getElem (by simp) fun i h₁ h₂ => ?_
  simp only [List.length_map, List.length_range] at h₂
  simp only [List.getElem_drop, List.getElem_map, List.getElem_range]
  rw [packetAt_get _ _ (by omega), State.inputView_get_eq, Nat.add_assoc]

/-- What a whole packet of the stream gives to the list (45_frame_detector.md R199). -/
theorem lookaheadPart_eq (s : State) {k : Nat} (hk : (k + 1) * 188 ≤ s.len.toNat)
    (hpid : (tsFields (packetAt s.inputView k)).pid = s.fdCfg.pid) :
    (if (tsFields (packetAt s.inputView k)).payload && decide ((tsFields (packetAt s.inputView k)).plen > 0) then
      (packetAt s.inputView k).bytes.drop (tsFields (packetAt s.inputView k)).off else []) = lookaheadPart s k := by
  have hpid' : pidAt s (k * 188) = s.fdCfg.pid.toNat := by rw [← tsFields_pid, hpid]
  simp only [Bool.and_eq_true, decide_eq_true_eq, gt_iff_lt, tsFields_plen_pos, lookaheadPart, hpid', true_and]
  rw [packetAt_payload s hk, tsFields_payload, tsFields_off]
  by_cases hpayload : payloadAt s (k * 188) = true
  · by_cases hoff : offAt s (k * 188) < 188
    · simp only [hpayload, hoff, and_self, if_true]
    · simp only [hpayload, hoff, and_false, if_false, if_true]
      rw [Nat.sub_eq_zero_of_le (by omega)]
      rfl
  · simp only [hpayload, false_and, Bool.false_eq_true, if_false]

/-- The list stops at a packet that ends it; any other adds its part. -/
theorem lookaheadFrom_succ (s : State) (fuel k : Nat) :
    (endsLookahead s k → lookaheadFrom s.inputView s.fdCfg.pid (fuel + 1) k = []) ∧
      (¬endsLookahead s k →
        lookaheadFrom s.inputView s.fdCfg.pid (fuel + 1) k =
          lookaheadPart s k ++ lookaheadFrom s.inputView s.fdCfg.pid fuel (k + 1)) := by
  by_cases hk : (k + 1) * 188 ≤ s.len.toNat
  swap
  · refine ⟨fun _ => ?_, fun h => absurd (.inl (by omega)) h⟩
    rw [lookaheadFrom, State.inputView_len, if_neg hk]
  have hpacket : s.inputView.sub (k * 188) 188 = packetAt s.inputView k := by
    rw [packetAt, State.inputView_len, min_eq_left (by omega)]
  have hsync : (packetAt s.inputView k).get 0 ≠ 0x47#8 ↔ byteAt s (k * 188) ≠ 0x47 := by
    rw [packetAt_get _ _ (by omega)]
    exact not_congr (inputView_get_eq_iff s _ (by omega))
  have hpid : (tsFields (packetAt s.inputView k)).pid = s.fdCfg.pid ↔ pidAt s (k * 188) = s.fdCfg.pid.toNat := by
    rw [← tsFields_pid, BitVec.toNat_inj]
  have hunit : ((tsFields (packetAt s.inputView k)).pusi || (tsFields (packetAt s.inputView k)).tsc != 0#2) = true ↔
      pusiAt s (k * 188) = true ∨ byteAt s (k * 188 + 3) / 64 ≠ 0 := by
    rw [Bool.or_eq_true, bne_iff_ne, ne_eq, ← BitVec.toNat_inj, tsFields_tsc, tsFields_pusi]
    rfl
  rw [lookaheadFrom, State.inputView_len, if_pos hk, hpacket]
  simp only [endsLookahead, ← hsync, ← hpid, ← hunit, Nat.not_lt.mpr hk, false_or]
  by_cases hs : (packetAt s.inputView k).get 0 ≠ 0x47#8
  · exact ⟨fun _ => if_pos hs, fun h => absurd (.inl hs) h⟩
  by_cases hp : (tsFields (packetAt s.inputView k)).pid = s.fdCfg.pid
  · rw [if_neg hs, if_pos hp, lookaheadPart_eq s hk hp]
    by_cases hu : ((tsFields (packetAt s.inputView k)).pusi || (tsFields (packetAt s.inputView k)).tsc != 0#2) = true
    · exact ⟨fun _ => if_pos hu, fun h => absurd (.inr ⟨hp, hu⟩) h⟩
    · exact ⟨fun h => absurd h (by simp [hs, hu]), fun _ => if_neg hu⟩
  · have hpart : lookaheadPart s k = [] := if_neg fun h => hp (hpid.mpr h.1)
    rw [if_neg hs, if_neg hp, hpart]
    exact ⟨fun h => absurd h (by simp [hs, hp]), fun _ => rfl⟩

/-- From packet `k` on, the list holds what the packets before the first that ends it give. -/
theorem lookaheadFrom_eq (s : State) {fuel k K : Nat} (hkK : k ≤ K) (hfuel : K ≤ fuel + k)
    (hgo : ∀ j, k ≤ j → j < K → ¬endsLookahead s j) (hend : endsLookahead s K) :
    lookaheadFrom s.inputView s.fdCfg.pid fuel k = ((List.range (K - k)).map (· + k)).flatMap (lookaheadPart s) := by
  induction fuel generalizing k with
  | zero =>
    obtain rfl : k = K := by omega
    simp [lookaheadFrom]
  | succ fuel ih =>
    rcases Nat.eq_or_lt_of_le hkK with rfl | hlt
    · rw [(lookaheadFrom_succ s fuel k).1 hend]
      simp
    · rw [(lookaheadFrom_succ s fuel k).2 (hgo k (Nat.le_refl k) hlt),
        ih hlt (by omega) fun j hj => hgo j (by omega),
        show K - k = K - (k + 1) + 1 by omega, List.range_succ_eq_map]
      simp [Function.comp_def, Nat.add_comm, Nat.add_left_comm]

/-! ## Two states that see the same packets -/

theorem lookaheadFrom_base (b b' : Nat) (l : List Byte) (pid : BitVec 13) (fuel k : Nat) :
    lookaheadFrom ⟨b, l⟩ pid fuel k = lookaheadFrom ⟨b', l⟩ pid fuel k := by
  induction fuel generalizing k with
  | zero => rfl
  | succ fuel ih =>
    rw [lookaheadFrom, lookaheadFrom, ih]
    rfl

/-- The MPEG-2 scan depends on the bytes of the view, the scanner and the result record only. -/
theorem mpeg2Scan_congr (b b' : Nat) (l : List Byte) (ahead : List Byte) (fuel pos : Nat) {c c' : ScanState}
    (hs : c.scanner = c'.scanner) (hr : c.result = c'.result) :
    (mpeg2Scan ⟨b, l⟩ ahead fuel pos c).scanner = (mpeg2Scan ⟨b', l⟩ ahead fuel pos c').scanner ∧
      (mpeg2Scan ⟨b, l⟩ ahead fuel pos c).result = (mpeg2Scan ⟨b', l⟩ ahead fuel pos c').result := by
  have hget : ∀ i, View.get ⟨b, l⟩ i = View.get ⟨b', l⟩ i := fun _ => rfl
  have hread : readPictureType ⟨b, l⟩ = readPictureType ⟨b', l⟩ := rfl
  induction fuel generalizing pos c c' with
  | zero => exact ⟨hs, hr⟩
  | succ fuel ih =>
    unfold mpeg2Scan
    simp only [hs, hget, hread]
    split_ifs
    · exact ⟨rfl, rfl⟩
    · exact ih _ rfl hr
    · exact ⟨hs, hr⟩

theorem pusiAt_congr {s s' : State} (h : byteAt s = byteAt s') (b : Nat) : pusiAt s b = pusiAt s' b := by
  rw [pusiAt, pusiAt, h]

theorem scannerBefore_congr {s s' : State} (h : byteAt s = byteAt s') (hscan : s.fdScanner = s'.fdScanner) :
    scannerBefore s = scannerBefore s' := by
  rw [scannerBefore, scannerBefore, pusiAt_congr h, hscan]

theorem startAt_congr {s s' : State} (h : byteAt s = byteAt s') : startAt s = startAt s' := by
  have hoff : offAt s 0 = offAt s' 0 := by rw [offAt, offAt, adaptAt, adaptAt, h]
  have hpayload : payloadByte s = payloadByte s' := funext fun i => by rw [payloadByte, payloadByte, hoff, h]
  rw [startAt, startAt, hoff, hpayload, pusiAt_congr h]

/-- The outcome of an accepted MPEG-2 packet depends on the scanner before it and the view only (45_frame_detector.md R215). -/
theorem State.parsed_mpeg2_congr {s s' : State} (hcfg : s.fdCfg = s'.fdCfg) (hk : s.fdCfg.kind = .mpeg2)
    (hlen : s.len = s'.len) (hbytes : byteAt s = byteAt s') (hscan : scannerBefore s = scannerBefore s') :
    s.parsed.scanner = s'.parsed.scanner ∧ s.parsed.result = s'.parsed.result := by
  have hview : s'.inputView = ⟨s'.inputView.base, s.inputView.bytes⟩ := by
    have hget : s.inputView.get = s'.inputView.get := funext fun i => by
      rw [State.inputView_get_eq, State.inputView_get_eq, hbytes]
    rw [s.inputView.bytes_eq_map, State.inputView_len, hlen, hget, ← State.inputView_len, ← View.bytes_eq_map]
  have hahead : lookahead s'.inputView s'.fdCfg.pid = lookahead s.inputView s.fdCfg.pid := by
    rw [hview, ← hcfg]
    exact lookaheadFrom_base _ _ _ _ _ _
  rw [State.parsed_mpeg2 hk, State.parsed_mpeg2 (hcfg ▸ hk), scanStart_inputView, scanStart_inputView, ← startAt_congr hbytes,
    hahead, hview]
  refine mpeg2Scan_congr _ _ _ _ _ _ ?_ rfl
  rw [← hview, ← BitVec.toNat_inj, s.scanState_scanner_toNat, s'.scanState_scanner_toNat, hscan]

/-- What FD_PACKET leaves of a packet it does not process: no frame, and the scanner as it was. -/
theorem exec_fdPacket_not_accepted {s t : State} (h : ¬(packetReady s ∧ accepted s)) (ht : exec .fdPacket s = .next t) :
    t.status.newFrame = false ∧ t.status.indepFrame = false ∧ t.fdScanner = s.fdScanner := by
  obtain ⟨hcfg, hrange, hshort, hsync, hother⟩ := Proofs.fdPacketPassesOver s
  by_cases hc : s.fdCfg.configured = true
  swap
  · obtain rfl := Host.Outcome.next.inj ((hcfg (by simpa using hc)).symm.trans ht)
    exact ⟨rfl, rfl, rfl⟩
  by_cases hin : inRange s
  swap
  · obtain rfl := Host.Outcome.next.inj ((hrange hc hin).symm.trans ht)
    exact ⟨rfl, rfl, rfl⟩
  by_cases hlen : s.len.toNat < 188
  · obtain rfl := Host.Outcome.next.inj ((hshort hc hin hlen).symm.trans ht)
    exact ⟨rfl, rfl, rfl⟩
  have hready : packetReady s := ⟨hc, hin, Nat.not_lt.mp hlen⟩
  by_cases hfirst : byteAt s 0 = 0x47
  · obtain rfl := Host.Outcome.next.inj ((hother hready hfirst fun ha => h ⟨hready, ha⟩).symm.trans ht)
    exact ⟨rfl, rfl, rfl⟩
  · obtain ⟨n, hn, -⟩ := hsync hready hfirst
    obtain rfl := Host.Outcome.next.inj (hn.symm.trans ht)
    exact ⟨rfl, rfl, rfl⟩

/-- Two states of a unit with the same stream and buffer. -/
structure SameUnit (s s' : State) : Prop where
  fdCfg : s.fdCfg = s'.fdCfg
  params : s.params = s'.params
  mem : s.mem = s'.mem
  powerCycle : s.powerCycle = s'.powerCycle

/-- FD_PACKET on a view. -/
def State.fedView (s : State) (a l : Word) : State := { s with addr := a, len := l }

theorem exec_fdPacket_sameUnit {s t : State} (h : exec .fdPacket s = .next t) : SameUnit s t := by
  have hf := exec_frame (by decide) h
  exact ⟨(congrArg State.fdCfg hf).symm, (congrArg State.params hf).symm, (congrArg State.mem hf).symm,
    (congrArg State.powerCycle hf).symm⟩

namespace SameUnit

variable {s s' : State} (h : SameUnit s s') (a l : Word)
include h

theorem byteAt_fedView : byteAt (s.fedView a l) = byteAt (s'.fedView a l) := by
  have hbuf : s.bufByte = s'.bufByte := funext fun x => by rw [State.bufByte, State.bufByte, h.mem, h.powerCycle]
  funext i
  exact congrArg (fun b : Nat → Byte => if i < l.toNat then (b (a.toNat + i)).toNat else 0) hbuf

theorem packetReady_iff : packetReady (s.fedView a l) ↔ packetReady (s'.fedView a l) := by
  simp only [packetReady, inRange, State.fedView, h.fdCfg, h.params]

theorem accepted_iff : accepted (s.fedView a l) ↔ accepted (s'.fedView a l) := by
  simp only [accepted, pidAt, payloadAt, h.byteAt_fedView]
  simp only [State.fedView, h.fdCfg]

/-- The same view fed to both gives the same outcome and leaves the same scanner, if the scanner was the same or the packet starts
a payload unit. -/
theorem exec_fdPacket {t t' : State} (hk : s.fdCfg.kind = .mpeg2)
    (hscan : s.fdScanner = s'.fdScanner ∨
      packetReady (s.fedView a l) ∧ accepted (s.fedView a l) ∧ pusiAt (s.fedView a l) 0 = true)
    (ht : exec .fdPacket (s.fedView a l) = .next t) (ht' : exec .fdPacket (s'.fedView a l) = .next t') :
    t.status.newFrame = t'.status.newFrame ∧ t.status.indepFrame = t'.status.indepFrame ∧ t.fdScanner = t'.fdScanner := by
  by_cases hproc : packetReady (s.fedView a l) ∧ accepted (s.fedView a l)
  · have hproc' := (and_congr (h.packetReady_iff a l) (h.accepted_iff a l)).mp hproc
    obtain rfl := eq_processed hproc.1 hproc.2 ht
    obtain rfl := eq_processed hproc'.1 hproc'.2 ht'
    have hbefore : scannerBefore (s.fedView a l) = scannerBefore (s'.fedView a l) := by
      rcases hscan with hscan | ⟨-, -, hpusi⟩
      · exact scannerBefore_congr (h.byteAt_fedView a l) hscan
      · have hpusi' : pusiAt (s'.fedView a l) 0 = true := (pusiAt_congr (h.byteAt_fedView a l) 0).symm.trans hpusi
        rw [scannerBefore, scannerBefore, hpusi, hpusi', if_pos rfl, if_pos rfl]
    obtain ⟨hscanner, hresult⟩ := State.parsed_mpeg2_congr (s := s.fedView a l) (s' := s'.fedView a l) h.fdCfg hk rfl
      (h.byteAt_fedView a l) hbefore
    rw [State.processed_fdScanner, State.processed_fdScanner, hscanner]
    exact ⟨congrArg FdResult.newFrame hresult, congrArg FdResult.indepFrame hresult, rfl⟩
  · have hproc' := mt (and_congr (h.packetReady_iff a l) (h.accepted_iff a l)).mpr hproc
    have hsame := hscan.resolve_right fun hp => hproc ⟨hp.1, hp.2.1⟩
    obtain ⟨hn, hi, hs⟩ := exec_fdPacket_not_accepted hproc ht
    obtain ⟨hn', hi', hs'⟩ := exec_fdPacket_not_accepted hproc' ht'
    exact ⟨hn.trans hn'.symm, hi.trans hi'.symm, hs.trans (hsame.trans hs'.symm)⟩

end SameUnit

theorem exec_fdPacket_next (s : State) : ∃ t, exec .fdPacket s = .next t := by
  rw [exec_eq_command]
  exact command_next _ _ _

/-- Feeding a view, then the others. -/
theorem feed_cons {s t : State} {a l : Word} (ht : exec .fdPacket (s.fedView a l) = .next t) (ps : List (Word × Word)) :
    feed ((a, l) :: ps) s = ((t.status.newFrame, t.status.indepFrame) :: (feed ps t).1, (feed ps t).2) := by
  have ht' : exec .fdPacket { s with addr := a, len := l } = .next t := ht
  rw [feed, ht']

theorem SameUnit.trans {s t u : State} (h₁ : SameUnit s t) (h₂ : SameUnit t u) : SameUnit s u :=
  ⟨h₁.fdCfg.trans h₂.fdCfg, h₁.params.trans h₂.params, h₁.mem.trans h₂.mem, h₁.powerCycle.trans h₂.powerCycle⟩

theorem SameUnit.symm {s t : State} (h : SameUnit s t) : SameUnit t s :=
  ⟨h.fdCfg.symm, h.params.symm, h.mem.symm, h.powerCycle.symm⟩

/-- Feeding leaves the same unit. -/
theorem feed_sameUnit (ps : List (Word × Word)) (s : State) : SameUnit s (feed ps s).2 := by
  induction ps generalizing s with
  | nil => exact ⟨rfl, rfl, rfl, rfl⟩
  | cons p ps ih =>
    obtain ⟨a, l⟩ := p
    obtain ⟨t, ht⟩ := exec_fdPacket_next (s.fedView a l)
    rw [feed_cons ht]
    have hview : SameUnit s (s.fedView a l) := ⟨rfl, rfl, rfl, rfl⟩
    exact (hview.trans (exec_fdPacket_sameUnit ht)).trans (ih t)

/-- The same views fed to two units that agree, scanner included or from a payload start on, give the same outcomes. -/
theorem feed_congr {ps : List (Word × Word)} {s s' : State} (h : SameUnit s s') (hk : s.fdCfg.kind = .mpeg2)
    (hscan : s.fdScanner = s'.fdScanner ∨ ∃ a l qs, ps = (a, l) :: qs ∧
      packetReady (s.fedView a l) ∧ accepted (s.fedView a l) ∧ pusiAt (s.fedView a l) 0 = true) :
    (feed ps s).1 = (feed ps s').1 := by
  induction ps generalizing s s' with
  | nil => rfl
  | cons p ps ih =>
    obtain ⟨a, l⟩ := p
    obtain ⟨t, ht⟩ := exec_fdPacket_next (s.fedView a l)
    obtain ⟨t', ht'⟩ := exec_fdPacket_next (s'.fedView a l)
    have hfirst : s.fdScanner = s'.fdScanner ∨
        packetReady (s.fedView a l) ∧ accepted (s.fedView a l) ∧ pusiAt (s.fedView a l) 0 = true := by
      rcases hscan with hscan | ⟨a', l', qs, hps, hstart⟩
      · exact .inl hscan
      · obtain ⟨hal, -⟩ := List.cons_eq_cons.mp hps
        obtain ⟨rfl, rfl⟩ := Prod.mk.inj hal
        exact .inr hstart
    obtain ⟨hn, hi, hs⟩ := h.exec_fdPacket a l hk hfirst ht ht'
    have hview : SameUnit s (s.fedView a l) := ⟨rfl, rfl, rfl, rfl⟩
    have hview' : SameUnit s' (s'.fedView a l) := ⟨rfl, rfl, rfl, rfl⟩
    have ht₁ := hview.trans (exec_fdPacket_sameUnit ht)
    have htt' : SameUnit t t' := (ht₁.symm.trans h).trans (hview'.trans (exec_fdPacket_sameUnit ht'))
    rw [feed_cons ht, feed_cons ht', hn, hi, ih htt' (ht₁.fdCfg ▸ hk) (.inl hs)]

end Sys2Proof.Machine

namespace Sys2Proof.Proofs

open Sys2Proof.Machine Sys2Proof.Claims

/-- Settles O49: the scan stops at the least offset whose last four bytes are the start code (`mpeg2Scan_spec`). -/
theorem mpeg2FirstPicture : Obligations.Mpeg2FirstPicture := by
  intro s t h ha hk ht
  obtain rfl := eq_processed h ha ht
  simp only [State.processed_fdResult, State.processed_fdScanner]
  refine ⟨fun pos hpos hat hfirst => ?_, fun hnone => ?_⟩
  · rcases State.parsed_mpeg2_spec hk with ⟨here, hhere, hat', hfirst', hscanner, hres⟩ | ⟨hnone, -⟩
    · obtain rfl : here = pos := by
        rcases Nat.lt_trichotomy here pos with hlt | heq | hlt
        · exact absurd hat' (hfirst here hlt hhere)
        · exact heq
        · exact absurd hat (hfirst' pos hlt hpos)
      have htype := readPictureType_toNat s here
      rw [hres, hscanner]
      refine ⟨rfl, htype, ?_, ?_, rfl⟩
      · rw [pictureResult_indep, ← BitVec.toNat_inj]
        exact and_iff_right rfl
      · exact Nat.mod_eq_of_lt (by have := hhere.2; omega)
    · exact absurd hat (hnone pos hpos)
  · rcases State.parsed_mpeg2_spec hk with ⟨here, hhere, hat, -⟩ | ⟨-, hscanner, hres⟩
    · exact absurd hat (hnone here hhere)
    · rw [hres]
      exact ⟨rfl, rfl, rfl, hscanner⟩

/-- Settles O50: packet by packet, up to the first that ends the list; the fuel covers every whole packet. -/
theorem lookaheadList : Obligations.LookaheadList := by
  intro s K hK hgo hend
  refine lookaheadFrom_eq s hK ?_ hgo hend
  rw [State.inputView_len]
  by_contra hlt
  exact hgo (s.len.toNat / 188 + 1) (by omega) (by omega) (.inl (by omega))

/-- Settles O58: the parser reads the view and the scanner only, and a payload start empties the scanner. -/
theorem gopFedTwice : Obligations.GopFedTwice := by
  refine ⟨fun s s' t t' h ha h' hcfg hk hlen hbytes hscan ht ht' => ?_, fun s a l ps hk h ha hpusi => ?_⟩
  · have hbytes' : byteAt s = byteAt s' := funext hbytes
    have ha' : accepted s' := by
      simp only [accepted, pidAt, payloadAt, ← hbytes', ← hcfg]
      exact ha
    obtain ⟨-, hres⟩ := State.parsed_mpeg2_congr hcfg hk hlen hbytes' (scannerBefore_congr hbytes' hscan)
    obtain rfl := eq_processed h ha ht
    obtain rfl := eq_processed h' ha' ht'
    exact ⟨congrArg FdResult.newFrame hres, congrArg FdResult.indepFrame hres⟩
  · exact feed_congr (feed_sameUnit _ s) hk (.inr ⟨a, l, ps, rfl, h, ha, hpusi⟩)

end Sys2Proof.Proofs
end

section
/-! Reads through a cursor, composed (45_frame_detector.md R206 to R209): each read takes a number of bits one after the other, and
a relation between two readers that single bits and bytes keep is kept by the SPS and the slice header. So the early stop of
the model at PASTEND (entry 10) changes no field and not where the reader stands. -/

namespace Sys2Proof.Machine

open Sys2Proof.Claims

/-! ## Bit after bit -/

section

variable {σ : Type} (next : Source σ)

/-- The reader after one bit. -/
def bitStep (r : Reader σ) : Reader σ := (getBit next r).2

theorem getBitsFrom_reader (v n : Nat) (r : Reader σ) : (getBitsFrom next v n r).2 = (bitStep next)^[n] r := by
  induction n generalizing v r with
  | zero => rfl
  | succ n ih => rw [getBitsFrom_succ, ih, Function.iterate_succ_apply]; rfl

/-- The count of zero bits only grows. -/
theorem leadingZeros_le (z n : Nat) (r : Reader σ) {k : Nat} (h : (leadingZeros next z n r).1 = some k) : z ≤ k := by
  induction n generalizing z r with
  | zero => cases h
  | succ n ih =>
    rw [leadingZeros_succ] at h
    split_ifs at h
    · exact (Option.some.inj h).le
    · exact (Nat.le_succ z).trans (ih _ _ h)

theorem leadingZeros_reader (z n : Nat) (r : Reader σ) :
    ((leadingZeros next z n r).1 = none → (leadingZeros next z n r).2 = (bitStep next)^[n] r) ∧
      ∀ k, (leadingZeros next z n r).1 = some (z + k) → (leadingZeros next z n r).2 = (bitStep next)^[k + 1] r := by
  induction n generalizing z r with
  | zero => exact ⟨fun _ => rfl, nofun⟩
  | succ n ih =>
    obtain ⟨hnone, hsome⟩ := ih (z + 1) (getBit next r).2
    rw [leadingZeros_succ]
    split_ifs with hbit
    · refine ⟨nofun, fun k hk => ?_⟩
      obtain rfl : k = 0 := by simpa using hk
      rfl
    · refine ⟨fun h => (hnone h).trans (Function.iterate_succ_apply _ _ _).symm, fun k hk => ?_⟩
      have hle := leadingZeros_le next (z + 1) n (getBit next r).2 hk
      obtain ⟨k, rfl⟩ : ∃ j, k = j + 1 := ⟨k - 1, by omega⟩
      rw [hsome k (hk.trans (by rw [Nat.add_assoc, Nat.add_comm 1])), Function.iterate_succ_apply]
      rfl

theorem readUe_reader (r : Reader σ) : ∃ n, (readUe next r).2 = (bitStep next)^[n] r := by
  obtain ⟨hnone, hsome⟩ := leadingZeros_reader next 0 32 r
  cases hz : (leadingZeros next 0 32 r).1 with
  | none => exact ⟨32, by rw [readUe_of_leadingZeros_none hz]; exact hnone hz⟩
  | some z =>
    refine ⟨z + (z + 1), ?_⟩
    rw [readUe_of_leadingZeros_some hz, Function.iterate_add_apply, ← hsome z (by rw [hz, Nat.zero_add])]
    exact getBitsFrom_reader next 0 z _

theorem skipAllBits_reader (n : Nat) (r : Reader σ) : (skipAllBits next n r).2 = (bitStep next)^[n] r := by
  induction n generalizing r with
  | zero => rfl
  | succ n ih => rw [Function.iterate_succ_apply, ← ih]; rfl

theorem skipAllSes_reader (n : Nat) (r : Reader σ) : ∃ k, (skipAllSes next n r).2 = (bitStep next)^[k] r := by
  induction n generalizing r with
  | zero => exact ⟨0, rfl⟩
  | succ n ih =>
    obtain ⟨k, hk⟩ := readUe_reader next r
    obtain ⟨j, hj⟩ := ih (readUe next r).2
    exact ⟨j + k, by rw [Function.iterate_add_apply, ← hk, ← hj]; rfl⟩

/-- The early stop of the repeats (entry 10). -/
theorem skipBits_succ (n : Nat) (r : Reader σ) :
    skipBits next (n + 1) r = if r.bits.pastEnd then ((), r) else skipBits next n (getBit next r).2 := by
  rw [skipBits]
  exact apply_ite (fun m : Read σ Unit => m r) _ _ _

theorem skipSes_succ (n : Nat) (r : Reader σ) :
    skipSes next (n + 1) r = if r.bits.pastEnd then ((), r) else skipSes next n (readSe next r).2 := by
  rw [skipSes]
  exact apply_ite (fun m : Read σ Unit => m r) _ _ _

end

/-! ## The reads as sequences -/

section

variable {σ : Type} (next : Source σ)

theorem getBitsFrom_eq_bind (v n : Nat) :
    getBitsFrom next v (n + 1) = getBit next >>= fun b => getBitsFrom next (2 * v + b.toNat) n := rfl

theorem leadingZeros_eq_bind (z n : Nat) :
    leadingZeros next z (n + 1) = getBit next >>= fun b => if b then pure (some z) else leadingZeros next (z + 1) n := by
  funext r
  rw [leadingZeros_succ]
  exact (apply_ite (fun m : Read σ (Option Nat) => m (getBit next r).2) _ _ _).symm

/-- The ue code once its zero bits are counted (41_bitreader.md R116). -/
def ueAfterZeros : Option Nat → Read σ (Nat × Bool)
  | none => pure (0xFFFFFFFF, true)
  | some z => getBits next z >>= fun x => pure (2 ^ z - 1 + x, false)

theorem readUe_eq_bind : readUe next = leadingZeros next 0 32 >>= ueAfterZeros next := by
  funext r
  show readUe next r = ueAfterZeros next (leadingZeros next 0 32 r).1 (leadingZeros next 0 32 r).2
  cases hz : (leadingZeros next 0 32 r).1 with
  | none => exact readUe_of_leadingZeros_none hz
  | some z => exact readUe_of_leadingZeros_some hz

theorem readSe_eq_bind : readSe next = readUe next >>= fun x => pure (seOfUe x.1 x.2, x.2) := rfl

/-- The picture order count fields, the offsets of reference frames read by `ses` (45_frame_detector.md R206). -/
def pocWith (ses : Nat → Read σ Unit) : Read σ Unit :=
  readUe next >>= fun poc =>
    if poc.1 = 0 then readUe next >>= fun _ => pure ()
    else if poc.1 = 1 then
      getBit next >>= fun _ => readSe next >>= fun _ => readSe next >>= fun _ => readUe next >>= fun n => ses n.1
    else pure ()

/-- An SPS after its chroma fields, the picture order count fields read by `poc` (45_frame_detector.md R206). -/
def spsAfterChroma (poc : Read σ Unit) (sep : Bool) : Read σ SpsFields := do
  let (m, _) ← readUe next
  poc
  let _ ← readUe next
  let _ ← getBit next
  let _ ← readUe next
  let _ ← readUe next
  let mbs ← getBit next
  return { sepColourPlane := sep, log2mfn := BitVec.ofNat 32 (min (m + 4) 0xFFFFFFFF), frameMbsOnly := mbs }

/-- An SPS after its three bytes (45_frame_detector.md R206). -/
def spsAfterBytes (poc : Read σ Unit) (profile : Byte) : Read σ SpsFields :=
  readUe next >>= fun _ =>
    (if highProfiles.contains profile.toNat then readChroma next else pure false) >>= spsAfterChroma next poc

/-- An SPS (45_frame_detector.md R206). -/
def spsWith (poc : Read σ Unit) : Read σ SpsFields := do
  let profile ← readByte next
  let _ ← readByte next
  let _ ← readByte next
  spsAfterBytes next poc profile

theorem readSps_eq : readSps next = spsWith next (pocWith next (skipSes next)) := by
  unfold readSps spsWith spsAfterBytes
  refine bind_congr fun profile => bind_congr fun _ => bind_congr fun _ => bind_congr fun _ => ?_
  extract_lets rest
  have hrest : ∀ sep, rest sep = spsAfterChroma next (pocWith next (skipSes next)) sep := fun _ => rfl
  split_ifs <;> exact bind_congr hrest

theorem readWholeSps_eq : readWholeSps next = spsWith next (pocWith next (skipAllSes next)) := by
  unfold readWholeSps spsWith spsAfterBytes
  refine bind_congr fun profile => bind_congr fun _ => bind_congr fun _ => bind_congr fun _ => ?_
  have hpoc : ∀ k : Unit → Read σ SpsFields, pocWith next (skipAllSes next) >>= k = readUe next >>= fun poc =>
      if poc.1 = 0 then readUe next >>= fun _ => k ()
      else if poc.1 = 1 then
        getBit next >>= fun _ => readSe next >>= fun _ => readSe next >>= fun _ => readUe next >>= fun n =>
          skipAllSes next n.1 >>= k
      else k () := by
    intro k
    rw [pocWith, bind_assoc]
    refine bind_congr fun poc => ?_
    split_ifs <;> rfl
  extract_lets rest
  have hrest : ∀ sep, rest sep = spsAfterChroma next (pocWith next (skipAllSes next)) sep := fun sep =>
    bind_congr fun m => (hpoc _).symm
  have hprofiles : chromaProfiles = highProfiles := rfl
  rw [hprofiles]
  split_ifs <;> exact bind_congr hrest

/-- field_pic_flag and bottom_field_flag (45_frame_detector.md R208). -/
def readFieldBits (flags : FdH264) : Read σ (Bool × Bool) :=
  (if flags.frameMbsOnly then pure false else getBit next) >>= fun fieldPic =>
    (if fieldPic then getBit next else pure false) >>= fun bottom => pure (fieldPic, bottom)

/-- A slice header, frame_num skipped by `skip` (45_frame_detector.md R208). -/
def sliceWith (skip : Read σ Unit) (flags : FdH264) : Read σ SliceFields := do
  let _ ← readUe next
  let (sliceType, _) ← readUe next
  let _ ← readUe next
  let _ ← getBits next (if flags.sepColourPlane then 2 else 0)
  skip
  let (fieldPic, bottom) ← readFieldBits next flags
  return { sliceType := sliceType, fieldPic := fieldPic, bottom := bottom }

theorem readSlice_eq (flags : FdH264) (log2mfn : Word) :
    readSlice next flags log2mfn = sliceWith next (skipBits next log2mfn.toNat) flags := by
  unfold readSlice sliceWith
  refine bind_congr fun _ => bind_congr fun st => bind_congr fun _ => ?_
  extract_lets rest
  have hrest : ∀ u, rest u = skipBits next log2mfn.toNat >>= fun _ => readFieldBits next flags >>= fun x =>
      pure { sliceType := st.1, fieldPic := x.1, bottom := x.2 } := by
    intro u
    refine bind_congr fun _ => ?_
    rw [readFieldBits, bind_assoc]
    cases flags.frameMbsOnly
    · exact bind_congr fun fieldPic => by cases fieldPic <;> rfl
    · rfl
  rw [hrest ()]
  cases flags.sepColourPlane <;> rfl

theorem readWholeSlice_eq (flags : FdH264) (log2mfn : Word) :
    readWholeSlice next flags log2mfn = sliceWith next (skipAllBits next log2mfn.toNat) flags := by
  unfold readWholeSlice sliceWith
  refine bind_congr fun _ => bind_congr fun st => bind_congr fun _ => ?_
  extract_lets afterFieldPic rest
  have hrest : ∀ u, rest u = skipAllBits next log2mfn.toNat >>= fun _ => readFieldBits next flags >>= fun x =>
      pure { sliceType := st.1, fieldPic := x.1, bottom := x.2 } := by
    intro u
    refine bind_congr fun _ => ?_
    rw [readFieldBits, bind_assoc]
    cases flags.frameMbsOnly
    · exact bind_congr fun fieldPic => by cases fieldPic <;> rfl
    · rfl
  rw [hrest ()]
  cases flags.sepColourPlane <;> rfl

theorem skipScalingList_succ (n : Nat) (last nxt : Int) :
    skipScalingList next (n + 1) last nxt =
      if nxt = 0 then skipScalingList next n last nxt
      else readSe next >>= fun d =>
        skipScalingList next n (if (last + d.1 + 256) % 256 = 0 then last else (last + d.1 + 256) % 256)
          ((last + d.1 + 256) % 256) := by
  rw [skipScalingList]
  simp only [ne_eq, ite_not]

/-- One scaling list, where it is present (45_frame_detector.md R206). -/
def skipOneList (i : Nat) (isPresent : Bool) : Read σ Unit :=
  if isPresent then skipScalingList next (if i < 6 then 16 else 64) 8 8 else pure ()

theorem skipScalingLists_succ (i count : Nat) :
    skipScalingLists next i (count + 1) =
      getBit next >>= fun b => skipOneList next i b >>= fun _ => skipScalingLists next (i + 1) count := by
  rw [skipScalingLists]
  exact bind_congr fun b => by cases b <;> rfl

/-- The scaling matrix, where it is present (45_frame_detector.md R206). -/
def skipMatrix (chroma : Nat) (isPresent : Bool) : Read σ Unit :=
  if isPresent then skipScalingLists next 0 (if chroma = 3 then 12 else 8) else pure ()

theorem readChroma_eq :
    readChroma next = readUe next >>= fun c => (if c.1 = 3 then getBit next else pure false) >>= fun sep =>
      readUe next >>= fun _ => readUe next >>= fun _ => getBit next >>= fun _ => getBit next >>= fun b =>
        skipMatrix next c.1 b >>= fun _ => pure sep := by
  rw [readChroma]
  refine bind_congr fun c => ?_
  simp only [ne_eq, ite_not]
  split_ifs with h3
  all_goals
    refine bind_congr fun sep => bind_congr fun _ => bind_congr fun _ => bind_congr fun _ => bind_congr fun b => ?_
    cases b <;> simp only [skipMatrix, h3] <;> rfl

end

/-! ## Two readers that stay related -/

section

variable {σ α β : Type} {next : Source σ} {R : Reader σ → Reader σ → Prop}

/-- From related readers the reads give the same value and leave related readers. -/
def Agree (R : Reader σ → Reader σ → Prop) (m m' : Read σ α) : Prop :=
  ∀ r r', R r r' → (m r).1 = (m' r').1 ∧ R (m r).2 (m' r').2

theorem Agree.pure (v : α) : Agree R (Pure.pure v) (Pure.pure v) := fun _ _ h => ⟨rfl, h⟩

theorem Agree.bind {m m' : Read σ α} {f f' : α → Read σ β} (hm : Agree R m m') (hf : ∀ a, Agree R (f a) (f' a)) :
    Agree R (m >>= f) (m' >>= f') := by
  intro r r' h
  obtain ⟨hv, hr⟩ := hm r r' h
  have hnext := hf (m r).1 _ _ hr
  rw [hv] at hnext
  have hleft : (m >>= f) r = f (m' r').1 (m r).2 := congrArg (fun a => f a (m r).2) hv
  rw [hleft]
  exact hnext

theorem Agree.ite {c : Prop} [Decidable c] {m m' n n' : Read σ α} (hm : Agree R m m') (hn : Agree R n n') :
    Agree R (if c then m else n) (if c then m' else n') := by
  split_ifs
  · exact hm
  · exact hn

/-- A relation that single bits and bytes keep, and that a second reader keeps whose partner has stopped at PASTEND. -/
structure ReadRel (next : Source σ) (R : Reader σ → Reader σ → Prop) : Prop where
  getBit : Agree R (getBit next) (getBit next)
  readByte : Agree R (readByte next) (readByte next)
  stopped : ∀ r r', R r r' → r.bits.pastEnd = true → R r (bitStep next r')

namespace ReadRel

variable (h : ReadRel next R)
include h

theorem getBitsFrom (v n : Nat) : Agree R (getBitsFrom next v n) (getBitsFrom next v n) := by
  induction n generalizing v with
  | zero => exact .pure v
  | succ n ih =>
    rw [getBitsFrom_eq_bind]
    exact h.getBit.bind fun b => ih _

theorem leadingZeros (z n : Nat) : Agree R (leadingZeros next z n) (leadingZeros next z n) := by
  induction n generalizing z with
  | zero => exact .pure none
  | succ n ih =>
    rw [leadingZeros_eq_bind]
    exact h.getBit.bind fun b => .ite (.pure _) (ih _)

theorem readUe : Agree R (readUe next) (readUe next) := by
  rw [readUe_eq_bind]
  refine (h.leadingZeros 0 32).bind fun o => ?_
  cases o with
  | none => exact .pure _
  | some z => exact (h.getBitsFrom 0 z).bind fun x => .pure _

theorem readSe : Agree R (readSe next) (readSe next) := by
  rw [readSe_eq_bind]
  exact h.readUe.bind fun x => .pure _

theorem stopped_iterate {r r' : Reader σ} (hr : R r r') (hp : r.bits.pastEnd = true) (n : Nat) :
    R r ((bitStep next)^[n] r') := by
  induction n generalizing r' with
  | zero => exact hr
  | succ n ih => exact ih (h.stopped r r' hr hp)

theorem skipBits (n : Nat) : Agree R (skipBits next n) (skipAllBits next n) := by
  induction n with
  | zero => exact .pure ()
  | succ n ih =>
    intro r r' hr
    rw [skipBits_succ]
    split_ifs with hp
    · refine ⟨rfl, ?_⟩
      rw [skipAllBits_reader]
      exact h.stopped_iterate hr hp _
    · exact ih _ _ (h.getBit r r' hr).2

theorem skipSes (n : Nat) : Agree R (skipSes next n) (skipAllSes next n) := by
  induction n with
  | zero => exact .pure ()
  | succ n ih =>
    intro r r' hr
    rw [skipSes_succ]
    split_ifs with hp
    · obtain ⟨k, hk⟩ := skipAllSes_reader next (n + 1) r'
      exact ⟨rfl, hk ▸ h.stopped_iterate hr hp k⟩
    · exact ih _ _ (h.readSe r r' hr).2

theorem skipScalingList (n : Nat) (last nxt : Int) :
    Agree R (skipScalingList next n last nxt) (skipScalingList next n last nxt) := by
  induction n generalizing last nxt with
  | zero => exact .pure ()
  | succ n ih =>
    rw [skipScalingList_succ]
    exact .ite (ih _ _) (h.readSe.bind fun d => ih _ _)

theorem skipScalingLists (i count : Nat) :
    Agree R (skipScalingLists next i count) (skipScalingLists next i count) := by
  induction count generalizing i with
  | zero => exact .pure ()
  | succ count ih =>
    rw [skipScalingLists_succ]
    exact h.getBit.bind fun b => (Agree.ite (h.skipScalingList _ _ _) (.pure ())).bind fun _ => ih _

theorem readChroma : Agree R (readChroma next) (readChroma next) := by
  rw [readChroma_eq]
  exact h.readUe.bind fun c => (Agree.ite h.getBit (.pure false)).bind fun sep => h.readUe.bind fun _ =>
    h.readUe.bind fun _ => h.getBit.bind fun _ => h.getBit.bind fun b =>
      (Agree.ite (h.skipScalingLists _ _) (.pure ())).bind fun _ => .pure sep

theorem pocWith {ses ses' : Nat → Read σ Unit} (hses : ∀ n, Agree R (ses n) (ses' n)) :
    Agree R (pocWith next ses) (pocWith next ses') :=
  h.readUe.bind fun _ => .ite (h.readUe.bind fun _ => .pure ())
    (.ite (h.getBit.bind fun _ => h.readSe.bind fun _ => h.readSe.bind fun _ => h.readUe.bind fun n => hses n.1) (.pure ()))

theorem spsWith {poc poc' : Read σ Unit} (hpoc : Agree R poc poc') : Agree R (spsWith next poc) (spsWith next poc') :=
  have htail (sep : Bool) : Agree R (spsAfterChroma next poc sep) (spsAfterChroma next poc' sep) :=
    h.readUe.bind fun _ => hpoc.bind fun _ => h.readUe.bind fun _ => h.getBit.bind fun _ => h.readUe.bind fun _ =>
      h.readUe.bind fun _ => h.getBit.bind fun _ => .pure _
  h.readByte.bind fun _ => h.readByte.bind fun _ => h.readByte.bind fun _ => h.readUe.bind fun _ =>
    (Agree.ite h.readChroma (.pure false)).bind htail

theorem sliceWith {skip skip' : Read σ Unit} (hskip : Agree R skip skip') (flags : FdH264) :
    Agree R (sliceWith next skip flags) (sliceWith next skip' flags) :=
  have hfield : Agree R (readFieldBits next flags) (readFieldBits next flags) :=
    (Agree.ite (.pure false) h.getBit).bind fun _ => (Agree.ite h.getBit (.pure false)).bind fun _ => .pure _
  h.readUe.bind fun _ => h.readUe.bind fun _ => h.readUe.bind fun _ => (h.getBitsFrom 0 _).bind fun _ =>
    hskip.bind fun _ => hfield.bind fun _ => .pure _

/-- The model's early stop in an SPS. -/
theorem readSps : Agree R (readSps next) (readWholeSps next) := by
  rw [readSps_eq, readWholeSps_eq]
  exact h.spsWith (h.pocWith h.skipSes)

/-- The model's early stop in a slice header. -/
theorem readSlice (flags : FdH264) (log2mfn : Word) :
    Agree R (readSlice next flags log2mfn) (readWholeSlice next flags log2mfn) := by
  rw [readSlice_eq, readWholeSlice_eq]
  exact h.sliceWith (h.skipBits _) flags

end ReadRel

end

/-! ## Past the end of a source -/

section

variable {σ : Type} {next : Source σ} {rest : σ → List Byte}

/-- A source that has given nothing stays where it then stands. -/
def EndsForGood (next : Source σ) : Prop := ∀ x, (next x).1 = none → next (next x).2 = (none, (next x).2)

/-- The reader's place satisfies `J`; past the end its source stays where it is and its bits are zeros (45_frame_detector.md
R209). -/
structure Settled (next : Source σ) (rest : σ → List Byte) (J : σ → Prop) (r : Reader σ) : Prop where
  nbits : r.bits.nbits ≤ 8
  place : J r.src
  source : r.bits.pastEnd = true → next r.src = (none, r.src)
  zeros : r.bits.pastEnd = true → ∀ i, (r.left rest).getD i false = false

/-- Past the end, taking bits finds zeros and leaves zeros. -/
theorem Reader.Takes.zeros {n : Nat} {r r' : Reader σ} (h : Reader.Takes rest n r r')
    (hz : r.bits.pastEnd = true → ∀ i, (r.left rest).getD i false = false) (hp : r'.bits.pastEnd = true) (i : Nat) :
    (r'.left rest).getD i false = false := by
  rw [h.filled]
  rw [h.pastEnd, Bool.or_eq_true, decide_eq_true_eq] at hp
  rcases hp with hp | hp
  · exact hz hp _
  · exact List.getD_eq_default _ _ (by omega)

theorem settled_readInv {J : σ → Prop} (hend : EndsForGood next) (hJ : ∀ x, J x → J (next x).2) :
    ReadInv next fun r => r.bits.nbits ≤ 8 ∧ J r.src ∧ (r.bits.pastEnd = true → next r.src = (none, r.src)) where
  fetchRaw := by
    rintro r ⟨hn, hj, hs⟩
    have hj' := hJ _ hj
    have he := hend r.src
    unfold fetchRaw
    rcases hx : next r.src with ⟨_ | b, x⟩ <;> rw [hx] at he hj' hs
    · exact ⟨hn, hj', fun _ => he rfl⟩
    · exact ⟨hn, hj', fun hp => absurd (hs hp) (by simp)⟩
  byte := fun _ _ _ ⟨hn, hj, hs⟩ _ => ⟨hn, hj, hs⟩
  bits := fun _ _ ⟨_, hj, hs⟩ hn => ⟨hn, hj, hs⟩
  nbits := fun _ h => h.1

/-- A source at its end is kept there. -/
theorem atEnd_readInv {x : σ} (hx : next x = (none, x)) : ReadInv next fun r => r.bits.nbits ≤ 8 ∧ r.src = x where
  fetchRaw := by
    rintro r ⟨hn, rfl⟩
    unfold fetchRaw
    rw [hx]
    exact ⟨hn, rfl⟩
  byte := fun _ _ _ h _ => h
  bits := fun _ _ ⟨_, hs⟩ hn => ⟨hn, hs⟩
  nbits := fun _ h => h.1

/-- The same reader twice, or two readers past the end at the same place. -/
structure AlikeFrom (next : Source σ) (rest : σ → List Byte) (J : σ → Prop) (r r' : Reader σ) : Prop where
  settled : Settled next rest J r
  settled' : Settled next rest J r'
  src : r.src = r'.src
  same : r = r' ∨ r.bits.pastEnd = true ∧ r'.bits.pastEnd = true

section

variable (h : Lists next rest) (hend : EndsForGood next) {J : σ → Prop} (hJ : ∀ x, J x → J (next x).2)
include h

/-- Past the end there is no byte left. -/
theorem Settled.bytesLeft {r : Reader σ} (hr : Settled next rest J r) (hp : r.bits.pastEnd = true) : r.bytesLeft rest = [] := by
  have hhead := h.head r.src
  rw [hr.source hp] at hhead
  rw [Reader.bytesLeft, List.head?_eq_none_iff.mp hhead.symm, delivered_nil]

include hend hJ

theorem Settled.getBit {r : Reader σ} (hr : Settled next rest J r) : Settled next rest J (getBit next r).2 := by
  obtain ⟨hn, hj, hs⟩ := (settled_readInv hend hJ).getBit ⟨hr.nbits, hr.place, hr.source⟩
  exact ⟨hn, hj, hs, (h.getBit_spec r).2.zeros hr.zeros⟩

theorem Settled.readByte {r : Reader σ} (hr : Settled next rest J r) : Settled next rest J (readByte next r).2 := by
  obtain ⟨hn, hj, hs⟩ := (settled_readInv hend hJ).readByte ⟨hr.nbits, hr.place, hr.source⟩
  exact ⟨hn, hj, hs, (h.readByte_takes r).zeros hr.zeros⟩

/-- The relation that the early stop keeps (45_frame_detector.md R209). -/
theorem alikeFrom_readRel : ReadRel next (AlikeFrom next rest J) where
  getBit r r' hr := by
    have hset := hr.settled.getBit h hend hJ
    have hset' := hr.settled'.getBit h hend hJ
    rcases hr.same with rfl | ⟨hp, hp'⟩
    · exact ⟨rfl, hset, hset', rfl, .inl rfl⟩
    · have hzero := hr.settled.zeros hp 0
      have hzero' := hr.settled'.zeros hp' 0
      obtain ⟨hbit, htakes⟩ := h.getBit_spec r
      obtain ⟨hbit', htakes'⟩ := h.getBit_spec r'
      rw [← List.headD_eq_getD] at hzero hzero'
      refine ⟨by rw [hbit, hbit', hzero, hzero'], hset, hset', ?_, .inr ⟨?_, ?_⟩⟩
      · rw [((atEnd_readInv (hr.settled.source hp)).getBit ⟨hr.settled.nbits, rfl⟩).2,
          ((atEnd_readInv (hr.settled'.source hp')).getBit ⟨hr.settled'.nbits, rfl⟩).2, hr.src]
      · rw [htakes.pastEnd, hp]; rfl
      · rw [htakes'.pastEnd, hp']; rfl
  readByte r r' hr := by
    have hset := hr.settled.readByte h hend hJ
    have hset' := hr.settled'.readByte h hend hJ
    rcases hr.same with rfl | ⟨hp, hp'⟩
    · exact ⟨rfl, hset, hset', rfl, .inl rfl⟩
    · refine ⟨?_, hset, hset', ?_, .inr ⟨?_, ?_⟩⟩
      · rw [h.readByte_byte, h.readByte_byte, hr.settled.bytesLeft h hp, hr.settled'.bytesLeft h hp']
      · rw [((atEnd_readInv (hr.settled.source hp)).readByte ⟨hr.settled.nbits, rfl⟩).2,
          ((atEnd_readInv (hr.settled'.source hp')).readByte ⟨hr.settled'.nbits, rfl⟩).2, hr.src]
      · rw [(h.readByte_takes r).pastEnd, hp]; rfl
      · rw [(h.readByte_takes r').pastEnd, hp']; rfl
  stopped r r' hr hp := by
    have hp' : r'.bits.pastEnd = true := by
      rcases hr.same with rfl | hboth
      · exact hp
      · exact hboth.2
    refine ⟨hr.settled, hr.settled'.getBit h hend hJ, ?_, .inr ⟨hp, ?_⟩⟩
    · exact hr.src.trans ((atEnd_readInv (hr.settled'.source hp')).getBit ⟨hr.settled'.nbits, rfl⟩).2.symm
    · exact (h.getBit_spec r').2.pastEnd.trans (by rw [hp']; rfl)

end

end

/-! ## Codes of bits that continue alike -/

/-- Bits dropped from two lists that continue alike leave lists that continue alike. -/
theorem getD_drop_congr {l l' : List Bool} (h : ∀ i, l.getD i false = l'.getD i false) (n : Nat) :
    ∀ i, (l.drop n).getD i false = (l'.drop n).getD i false := by
  intro i
  have hi := h (n + i)
  simpa only [List.getD_eq_getElem?_getD, List.getElem?_drop] using hi

/-- A code depends on its bits continued with zeros only (41_bitreader.md R116). -/
theorem ueOf_congr {l l' : List Bool} (h : ∀ i, l.getD i false = l'.getD i false) : ueOf l = ueOf l' := by
  have hahead : zerosAhead l 32 = zerosAhead l' 32 := by rw [zerosAhead, zerosAhead, zeroFilled_congr h]
  rw [ueOf_eq, ueOf_eq, hahead, zeroFilled_congr (getD_drop_congr h _)]

/-- Zeros only make a code that overflows (41_bitreader.md R116). -/
theorem ueOf_zeros {l : List Bool} (h : ∀ i, l.getD i false = false) : ueOf l = (32, 32, 0xFFFFFFFF, true) :=
  (ueOf_congr (l' := []) h).trans (by decide)

/-! ## The header reader -/

theorem headerNext_endsForGood (V : View) : EndsForGood (headerNext V) := by
  intro x hx
  rcases Nat.lt_or_ge x.pos 188 with h | h
  · rw [headerNext_inside h] at hx
    cases hx
  · rw [headerNext_outside h] at hx ⊢
    have hnil : x.ahead = [] := List.head?_eq_none_iff.mp hx
    rw [hnil]
    exact headerNext_outside h

/-- The reader stands at or beyond `lo`, and not beyond the packet (45_frame_detector.md R199). -/
def StandsFrom (lo : Nat) (x : HeaderSource) : Prop := lo ≤ x.pos ∧ x.pos ≤ 188

theorem headerNext_standsFrom (V : View) (lo : Nat) (x : HeaderSource) (hx : StandsFrom lo x) :
    StandsFrom lo (headerNext V x).2 := by
  rcases Nat.lt_or_ge x.pos 188 with h | h
  · rw [headerNext_inside h]
    exact ⟨hx.1.trans (Nat.le_succ _), h⟩
  · rw [headerNext_outside h]
    exact hx

/-- A header reader as it is made is related to itself. -/
theorem headerReader_alike {V : View} {J : HeaderSource → Prop} {pos : Nat} {ahead : List Byte} {raw : Bool}
    (hJ : J (headerReader pos ahead raw).src) :
    AlikeFrom (headerNext V) (headerRest V) J (headerReader pos ahead raw) (headerReader pos ahead raw) :=
  have hset : Settled (headerNext V) (headerRest V) J (headerReader pos ahead raw) := ⟨Nat.zero_le _, hJ, nofun, nofun⟩
  ⟨hset, hset, rfl, .inl rfl⟩

/-- The relation that every read of a header keeps. -/
theorem headerNext_readRel (V : View) {J : HeaderSource → Prop} (hJ : ∀ x, J x → J (headerNext V x).2) :
    ReadRel (headerNext V) (AlikeFrom (headerNext V) (headerRest V) J) :=
  alikeFrom_readRel (headerNext_lists V) (headerNext_endsForGood V) hJ

/-- The early stop changes neither the fields of an SPS nor where its reader stands (entry 10). -/
theorem readSps_agrees (V : View) (pos : Nat) (ahead : List Byte) :
    (readSps (headerNext V) (headerReader pos ahead false)).1 =
        (readWholeSps (headerNext V) (headerReader pos ahead false)).1 ∧
      (readSps (headerNext V) (headerReader pos ahead false)).2.src =
        (readWholeSps (headerNext V) (headerReader pos ahead false)).2.src := by
  obtain ⟨hv, hr⟩ := (headerNext_readRel V (J := fun _ => True) fun _ h => h).readSps _ _ (headerReader_alike trivial)
  exact ⟨hv, hr.src⟩

theorem readSlice_agrees (V : View) (pos : Nat) (ahead : List Byte) (flags : FdH264) (log2mfn : Word) :
    (readSlice (headerNext V) flags log2mfn (headerReader pos ahead false)).1 =
      (readWholeSlice (headerNext V) flags log2mfn (headerReader pos ahead false)).1 :=
  ((headerNext_readRel V (J := fun _ => True) fun _ h => h).readSlice flags log2mfn _ _ (headerReader_alike trivial)).1

/-- The reader of an SPS moves on inside the packet (45_frame_detector.md R202). -/
theorem readSps_standsFrom (V : View) {pos : Nat} (hpos : pos < 188) (ahead : List Byte) :
    StandsFrom (pos + 1) (readSps (headerNext V) (headerReader pos ahead false)).2.src :=
  ((headerNext_readRel V (headerNext_standsFrom V (pos + 1))).readSps _ _
    (headerReader_alike ⟨Nat.le_refl _, hpos⟩)).2.settled.place

/-- A reader at the end of its data has zeros left. -/
theorem Reader.left_zeros {V : View} {r : Reader HeaderSource} (hcur : r.bits.cur = 0) (hpos : 188 ≤ r.src.pos)
    (hahead : r.src.ahead = []) (i : Nat) : (r.left (headerRest V)).getD i false = false := by
  rw [Reader.left, bitsLeft, headerRest_outside hpos, hahead, delivered_nil, hcur, List.flatMap_nil, List.append_nil]
  simp [List.getD_eq_getElem?_getD]

end Sys2Proof.Machine

namespace Sys2Proof.Proofs

open Sys2Proof.Machine Sys2Proof.Claims

/-- Settles O55: past the data the bits left are zeros; the relation of R209 is kept by every read, early stop included. -/
theorem earlyStopChangesNothing : Obligations.EarlyStopChangesNothing := by
  refine ⟨fun V r _ hcur hpos hahead => ?_, fun V pos ahead =>
    ⟨readSlice_agrees V pos ahead, (readSps_agrees V pos ahead).1, (readSps_agrees V pos ahead).2⟩⟩
  have hlists := headerNext_lists V
  have hzeros := Reader.left_zeros (V := V) hcur hpos hahead
  have hue : (readUe (headerNext V) r).1 = (0xFFFFFFFF, true) := by
    rw [(hlists.readUe_spec r).1, ueOf_zeros hzeros]
  refine ⟨?_, hue, ?_⟩
  · rw [(hlists.getBit_spec r).1, List.headD_eq_getD, hzeros]
  · rw [readSe_eq_bind]
    exact congrArg (fun x : Nat × Bool => (seOfUe x.1 x.2, x.2)) hue

end Sys2Proof.Proofs
end

section
/-! Reading back what a syntax writes (45_frame_detector.md R206, R207): the code of a value at the head of the bits left gives the
value and takes just its bits; from that the SPS, and where its reader then stands. -/

namespace Sys2Proof.Machine

open Sys2Proof.Claims

/-! ## Bits taken one after the other -/

section

variable {σ : Type} {next : Source σ} {rest : σ → List Byte}

/-- Unread bits of the current byte are taken without a fetch. -/
theorem bitStep_iterate_unread {n : Nat} {r : Reader σ} (hn : n ≤ r.bits.nbits) :
    (bitStep next)^[n] r = { r with bits := { r.bits with nbits := r.bits.nbits - n } } := by
  induction n generalizing r with
  | zero => rfl
  | succ n ih =>
    have hstep : bitStep next r = { r with bits := { r.bits with nbits := r.bits.nbits - 1 } } :=
      getBit_of_nbits_pos (by omega)
    rw [Function.iterate_succ_apply, hstep, ih (by simp only; omega)]
    simp only [Nat.sub_sub, Nat.add_comm]

/-- A reader between two bytes fetches the next one for its bits. -/
theorem bitStep_of_nbits_zero {r : Reader σ} (hn : r.bits.nbits = 0) :
    bitStep next r = { (fetch next r).2 with bits := { (fetch next r).2.bits with nbits := 7 } } := by
  rw [bitStep, getBit_eq, refill_of_nbits_zero hn]
  rfl

/-- Some bits of a fresh byte, the first of which fetches it. -/
theorem bitStep_iterate_of_nbits_zero {n : Nat} {r : Reader σ} (hn : r.bits.nbits = 0) (h8 : n < 8) :
    (bitStep next)^[n + 1] r = { (fetch next r).2 with bits := { (fetch next r).2.bits with nbits := 7 - n } } := by
  rw [Function.iterate_succ_apply, bitStep_of_nbits_zero hn]
  exact bitStep_iterate_unread (by simp only; omega)

variable (h : Lists next rest)
include h

theorem Lists.fetch_nbits (r : Reader σ) : (fetch next r).2.bits.nbits = r.bits.nbits := by rw [h.fetch_eq]

/-- Eight bits of a reader between two bytes are one fetch. -/
theorem Lists.eight_bitSteps {r : Reader σ} (hn : r.bits.nbits = 0) : (bitStep next)^[8] r = (fetch next r).2 := by
  have hf := (h.fetch_nbits r).trans hn
  rw [bitStep_iterate_of_nbits_zero hn (by omega)]
  generalize (fetch next r).2 = r' at hf ⊢
  obtain ⟨⟨cur, nbits, z, raw, pe⟩, x⟩ := r'
  obtain rfl : nbits = 0 := hf
  rfl

/-- `byte()` of a reader between two bytes is eight bits (41_bitreader.md R118). -/
theorem Lists.readByte_bitSteps {r : Reader σ} (hn : r.bits.nbits = 0) : (readByte next r).2 = (bitStep next)^[8] r := by
  rw [h.eight_bitSteps hn]
  obtain ⟨⟨cur, nbits, z, raw, pe⟩, x⟩ := r
  obtain rfl : nbits = 0 := hn
  rfl

theorem Lists.bitSteps_takes (n : Nat) (r : Reader σ) : Reader.Takes rest n r ((bitStep next)^[n] r) := by
  induction n generalizing r with
  | zero => exact .of_append (taken := []) rfl rfl
  | succ n ih =>
    have htakes := (h.getBit_spec r).2.trans (ih (bitStep next r))
    rwa [Nat.add_comm] at htakes

/-- The bits left after some are taken, zeros past the end. -/
theorem Lists.left_bitSteps (n : Nat) (r : Reader σ) (i : Nat) :
    (((bitStep next)^[n] r).left rest).getD i false = ((r.left rest).drop n).getD i false := by
  rw [(h.bitSteps_takes n r).filled]
  simp [List.getD_eq_getElem?_getD]

/-- A ue code, and the bits it takes (41_bitreader.md R116). -/
theorem Lists.readUe_eq (r : Reader σ) :
    readUe next r = ((ueOf (r.left rest)).2.2, (bitStep next)^[(ueOf (r.left rest)).2.1] r) := by
  obtain ⟨hval, -⟩ := h.leadingZeros_spec r 0 32
  obtain ⟨hnone, hsome⟩ := leadingZeros_reader next 0 32 r
  refine Prod.ext (h.readUe_spec r).1 ?_
  rw [ueOf_eq]
  by_cases hz : zerosAhead (r.left rest) 32 = 32
  · rw [if_pos hz] at hval ⊢
    rw [readUe_of_leadingZeros_none hval]
    exact hnone hval
  · rw [if_neg hz] at hval ⊢
    rw [readUe_of_leadingZeros_some hval]
    simp only [Nat.zero_add]
    rw [getBits, getBitsFrom_reader, hsome _ hval, ← Function.iterate_add_apply]
    congr 1
    omega

/-! ## The bits of a code -/

end

theorem zeroFilled_add (l : List Bool) (m n : Nat) : zeroFilled l (m + n) = zeroFilled l m ++ zeroFilled (l.drop m) n := by
  induction m generalizing l with
  | zero => simp [zeroFilled]
  | succ m ih =>
    rw [Nat.succ_add, zeroFilled_succ, zeroFilled_succ, ih, List.drop_drop, Nat.add_comm 1 m]
    rfl

theorem beginsWith_append (l p q : List Bool) :
    beginsWith l (p ++ q) ↔ beginsWith l p ∧ beginsWith (l.drop p.length) q := by
  rw [beginsWith, List.length_append, zeroFilled_add]
  exact ⟨fun h => List.append_inj h (by simp [zeroFilled]), fun ⟨hp, hq⟩ => by rw [hp, hq]⟩

theorem beginsWith_cons (l : List Bool) (b : Bool) (p : List Bool) :
    beginsWith l (b :: p) ↔ l.headD false = b ∧ beginsWith (l.drop 1) p := by
  rw [beginsWith, List.length_cons, zeroFilled_succ, List.cons.injEq]
  rfl

theorem beginsWith_congr {l l' : List Bool} (h : ∀ i, l.getD i false = l'.getD i false) (p : List Bool) :
    beginsWith l p ↔ beginsWith l' p := by
  rw [beginsWith, beginsWith, zeroFilled_congr h]

theorem bitsOf_succ (n v : Nat) : bitsOf (n + 1) v = v.testBit n :: bitsOf n v := by
  simp only [bitsOf, List.range_succ_eq_map, List.map_cons, List.map_map]
  refine congrArg (_ :: ·) (List.map_congr_left fun k _ => ?_)
  simp only [Function.comp_apply]
  congr 1
  omega

@[simp] theorem bitsOf_length (n v : Nat) : (bitsOf n v).length = n := by simp [bitsOf]

/-- Bits after a number `a` spell `a` shifted, then their own number. -/
theorem foldl_bits_eq (l : List Bool) (a : Nat) :
    l.foldl (fun v b => 2 * v + b.toNat) a = a * 2 ^ l.length + number l := by
  induction l generalizing a with
  | nil => simp [number]
  | cons b l ih =>
    rw [number, List.foldl_cons, List.foldl_cons, ih, ih, List.length_cons, pow_succ]
    ring

theorem number_bitsOf (n v : Nat) : number (bitsOf n v) = v % 2 ^ n := by
  induction n with
  | zero => simp [bitsOf, number, Nat.mod_one]
  | succ n ih =>
    rw [bitsOf_succ, number, List.foldl_cons, foldl_bits_eq, ih, bitsOf_length, Nat.mod_pow_succ, Nat.toNat_testBit]
    ring

/-- The zeros before a 1 are counted (41_bitreader.md R116). -/
theorem zerosAhead_of_beginsWith {l : List Bool} {z n : Nat} (h : beginsWith l (List.replicate z false ++ [true])) (hz : z < n) :
    zerosAhead l n = z := by
  induction z generalizing l n with
  | zero =>
    obtain ⟨n, rfl⟩ : ∃ m, n = m + 1 := ⟨n - 1, by omega⟩
    rw [zerosAhead_succ, if_pos ((beginsWith_cons l true []).mp h).1]
  | succ z ih =>
    obtain ⟨n, rfl⟩ : ∃ m, n = m + 1 := ⟨n - 1, by omega⟩
    obtain ⟨hhead, htail⟩ := (beginsWith_cons l false (List.replicate z false ++ [true])).mp h
    rw [zerosAhead_succ, hhead, if_neg (by decide), ih htail (by omega)]

/-- The code of a value: as many zeros as bits follow its leading 1 (41_bitreader.md R116). -/
theorem ueBits_eq (v : Nat) :
    ueBits v = (List.replicate (Nat.log2 (v + 1)) false ++ [true]) ++ bitsOf (Nat.log2 (v + 1)) (v + 1) := by
  rw [ueBits, bitsOf_succ, Nat.testBit_log2 (by omega), List.append_assoc]
  rfl

theorem ueBits_length (v : Nat) : (ueBits v).length = 2 * Nat.log2 (v + 1) + 1 := by
  rw [ueBits, List.length_append, List.length_replicate, bitsOf_length]
  omega

/-- Where the bits begin with the code of a value, that is the code they hold (41_bitreader.md R116). -/
theorem ueOf_of_beginsWith {l : List Bool} {v : Nat} (hv : ueRange v) (h : beginsWith l (ueBits v)) :
    (ueOf l).2 = ((ueBits v).length, v, false) := by
  have hlo : 2 ^ Nat.log2 (v + 1) ≤ v + 1 := Nat.log2_self_le (by omega)
  have hhi : v + 1 < 2 ^ (Nat.log2 (v + 1) + 1) := Nat.lt_log2_self
  have hlog : Nat.log2 (v + 1) < 32 := (Nat.log2_lt (by omega)).mpr (by unfold ueRange at hv; omega)
  rw [ueBits_length]
  rw [ueBits_eq] at h
  generalize Nat.log2 (v + 1) = z at *
  obtain ⟨hzeros, hbits⟩ := (beginsWith_append _ _ _).mp h
  have hahead := zerosAhead_of_beginsWith hzeros hlog
  rw [List.length_append, List.length_replicate, List.length_singleton, beginsWith, bitsOf_length] at hbits
  rw [ueOf_eq, hahead, if_neg (by omega), hbits, number_bitsOf]
  simp only [Prod.mk.injEq, true_and, and_true]
  rw [pow_succ] at hhi
  rw [Nat.mod_eq_sub_mod hlo, Nat.mod_eq_of_lt (by omega)]
  omega

/-! ## Reads of a code -/

section

variable {σ α β : Type} {next : Source σ} {rest : σ → List Byte}

/-- Where the bits left begin with `p`, the read gives `v` and takes just those bits. -/
def Codes (next : Source σ) (rest : σ → List Byte) (m : Read σ α) (p : List Bool) (v : α) : Prop :=
  ∀ r : Reader σ, beginsWith (r.left rest) p → m r = (v, (bitStep next)^[p.length] r)

theorem Codes.pure (v : α) : Codes next rest (Pure.pure v) [] v := fun _ _ => rfl

variable (h : Lists next rest)
include h

theorem Codes.bind {m : Read σ α} {f : α → Read σ β} {p q : List Bool} {v : α} {w : β} (hm : Codes next rest m p v)
    (hf : Codes next rest (f v) q w) : Codes next rest (m >>= f) (p ++ q) w := by
  intro r hr
  obtain ⟨hp, hq⟩ := (beginsWith_append _ _ _).mp hr
  have hq' := (beginsWith_congr (fun i => h.left_bitSteps p.length r i) q).mpr hq
  have hbind : (m >>= f) r = f (m r).1 (m r).2 := rfl
  rw [hbind, hm r hp, hf _ hq', ← Function.iterate_add_apply, List.length_append, Nat.add_comm]

theorem codes_getBit (b : Bool) : Codes next rest (getBit next) [b] b := by
  intro r hr
  exact Prod.ext ((h.getBit_spec r).1.trans ((beginsWith_cons _ _ _).mp hr).1) rfl

theorem codes_readUe {v : Nat} (hv : ueRange v) : Codes next rest (readUe next) (ueBits v) (v, false) := by
  intro r hr
  rw [h.readUe_eq, ueOf_of_beginsWith hv hr]

omit h in
/-- The signed value of its code (41_bitreader.md R117). -/
theorem seOfUe_code (v : Int) : seOfUe (if 0 < v then 2 * v.toNat - 1 else 2 * (-v).toNat) false = v := by
  unfold seOfUe
  simp only [Bool.false_eq_true, if_false]
  split_ifs <;> omega

theorem codes_readSe {v : Int} (hv : seRange v) : Codes next rest (readSe next) (seBits v) (v, false) := by
  have hcode : ueRange (if 0 < v then 2 * v.toNat - 1 else 2 * (-v).toNat) := by
    unfold seRange at hv
    unfold ueRange
    split_ifs <;> omega
  have hread := Codes.bind h (f := fun x : Nat × Bool => (Pure.pure (seOfUe x.1 x.2, x.2) : Read σ _))
    (codes_readUe h hcode) (.pure _)
  rw [List.append_nil, seOfUe_code] at hread
  exact hread

theorem codes_skipAllSes {l : List Int} (hl : ∀ d ∈ l, seRange d) :
    Codes next rest (skipAllSes next l.length) (l.flatMap seBits) () := by
  induction l with
  | nil => exact .pure ()
  | cons d l ih =>
    exact .bind h (codes_readSe h (hl d (by simp))) (ih fun e he => hl e (by simp [he]))

theorem codes_skipScalingList {n : Nat} {last nxt : Int} {ds : List Int} (hds : scalingCoded n last nxt ds) :
    Codes next rest (skipScalingList next n last nxt) (ds.flatMap seBits) () := by
  induction n generalizing last nxt ds with
  | zero =>
    obtain rfl : ds = [] := hds
    exact .pure ()
  | succ n ih =>
    rw [skipScalingList_succ]
    unfold scalingCoded at hds
    split_ifs at hds ⊢ with hn
    · subst hds
      exact ih (by cases n <;> simp [scalingCoded, hn])
    · cases ds with
      | nil => exact hds.elim
      | cons d ds =>
        obtain ⟨hd, htail⟩ := hds
        exact .bind h (codes_readSe h hd) (ih htail)

/-- The bits of one scaling list, or of its absence. -/
def listBits : Option (List Int) → List Bool
  | none => [false]
  | some ds => true :: ds.flatMap seBits

theorem codes_skipScalingLists {i : Nat} {lists : List (Option (List Int))}
    (hl : ∀ j ds, lists[j]? = some (some ds) → scalingCoded (if i + j < 6 then 16 else 64) 8 8 ds) :
    Codes next rest (skipScalingLists next i lists.length) (lists.flatMap listBits) () := by
  induction lists generalizing i with
  | nil => exact .pure ()
  | cons l lists ih =>
    have htail := ih (i := i + 1) fun j ds hj => by
      rw [Nat.add_right_comm]
      exact hl (j + 1) ds hj
    rw [List.length_cons, skipScalingLists_succ, List.flatMap_cons]
    cases l with
    | none => exact .bind h (codes_getBit h false) (.bind h (p := []) (.pure ()) htail)
    | some ds =>
      have hhead : Codes next rest (skipOneList next i true) (ds.flatMap seBits) () :=
        codes_skipScalingList h (hl 0 ds rfl)
      show Codes next rest _ ([true] ++ (ds.flatMap seBits ++ lists.flatMap listBits)) ()
      exact .bind h (codes_getBit h true) (.bind h hhead htail)

/-- The scaling matrix of a chroma format (45_frame_detector.md R206). -/
theorem codes_scaling {c : ChromaSyntax} (hc : c.ok) :
    ∃ b q, scalingBits c.scaling = b :: q ∧ Codes next rest (skipMatrix next c.chromaFormat b) q () := by
  obtain ⟨-, -, -, -, hlists⟩ := hc
  cases hs : c.scaling with
  | none => exact ⟨false, [], rfl, .pure ()⟩
  | some lists =>
    obtain ⟨hlen, hall⟩ := hlists lists hs
    refine ⟨true, lists.flatMap listBits, rfl, ?_⟩
    have hmatrix := codes_skipScalingLists h (i := 0) (lists := lists) (by simpa using hall)
    rwa [hlen] at hmatrix

theorem codes_readChroma {c : ChromaSyntax} (hc : c.ok) : Codes next rest (readChroma next) c.bits c.sepColour := by
  obtain ⟨b, q, hscaling, hmatrix⟩ := codes_scaling (next := next) (rest := rest) h hc
  obtain ⟨hformat, hsep, hluma, hchroma, -⟩ := hc
  have hsepBit : Codes next rest (if c.chromaFormat = 3 then getBit next else Pure.pure false)
      (if c.chromaFormat = 3 then [c.sepColour] else []) c.sepColour := by
    split_ifs with h3
    · exact codes_getBit h _
    · rw [hsep h3]
      exact .pure false
  rw [readChroma_eq, ChromaSyntax.bits, hscaling]
  exact .bind h (codes_readUe h hformat) <| .bind h hsepBit <| .bind h (codes_readUe h hluma) <|
    .bind h (codes_readUe h hchroma) <| .bind h (codes_getBit h _) <| .bind h (p := [b]) (codes_getBit h b) <|
    .bind h hmatrix (.pure _)

theorem codes_pocWith {p : PocSyntax} (hp : p.ok) : Codes next rest (pocWith next (skipAllSes next)) p.bits () := by
  unfold pocWith
  cases p with
  | zero l =>
    show Codes next rest _ (ueBits 0 ++ ueBits l) ()
    refine .bind h (codes_readUe h (by unfold ueRange; omega)) ?_
    rw [if_pos rfl, ← List.append_nil (ueBits l)]
    exact .bind h (codes_readUe h hp) (.pure ())
  | one a x y l =>
    obtain ⟨hx, hy, hlen, hl⟩ := hp
    refine .bind h (codes_readUe h (by unfold ueRange; omega)) ?_
    rw [if_neg Nat.one_ne_zero, if_pos rfl]
    refine .bind h (codes_getBit h a) <| .bind h (codes_readSe h hx) <| .bind h (codes_readSe h hy) <|
      .bind h (codes_readUe h hlen) ?_
    rw [List.flatten_singleton]
    exact codes_skipAllSes h hl
  | other t =>
    obtain ⟨h2, ht⟩ := hp
    rw [← List.append_nil (PocSyntax.bits _)]
    refine .bind h (codes_readUe h ht) ?_
    rw [if_neg (by omega), if_neg (by omega)]
    exact .pure ()

/-! ## An SPS as it was written -/

omit h in
theorem byteBits_injective {b c : Byte} (hbits : byteBits b = byteBits c) : b = c := by
  refine BitVec.eq_of_getLsbD_eq fun i hi => ?_
  have hi' := List.map_inj_left.mp hbits (7 - i) (List.mem_range.mpr (by omega))
  rwa [show 7 - (7 - i) = i by omega] at hi'

/-- Between two bytes, eight bits that spell a byte are that byte (41_bitreader.md R118). -/
theorem Lists.readByte_of_beginsWith {r : Reader σ} {b : Byte} (hn : r.bits.nbits = 0)
    (hr : beginsWith (r.left rest) (byteBits b)) : readByte next r = (b, (bitStep next)^[8] r) := by
  refine Prod.ext ?_ (h.readByte_bitSteps hn)
  rw [h.readByte_byte]
  rw [Reader.left_of_nbits_zero hn] at hr
  cases hl : r.bytesLeft rest with
  | nil => rw [hl] at hr; exact byteBits_injective hr
  | cons c l => rw [hl] at hr; exact byteBits_injective hr

/-- The fields of an SPS, SpsFieldsRead's (45_frame_detector.md R206). -/
def spsFields (x : SpsSyntax) : SpsFields :=
  { sepColourPlane := x.sepColour, log2mfn := BitVec.ofNat 32 (min (x.log2mfnMinus4 + 4) 0xFFFFFFFF)
    frameMbsOnly := x.frameMbsOnly }

/-- The bits of an SPS after its three bytes. -/
def tailBits (x : SpsSyntax) : List Bool :=
  List.flatten
    [ueBits x.spsId, x.chromaBits, ueBits x.log2mfnMinus4, x.poc.bits, ueBits x.refFrames, [x.gaps], ueBits x.width,
      ueBits x.height, [x.frameMbsOnly]]

/-- The chroma fields are there just when the profile has them (45_frame_detector.md R206). -/
theorem codes_chroma {x : SpsSyntax} (hsome : x.chroma.isSome = true ↔ x.profile.toNat ∈ chromaProfiles)
    (hc : ∀ c, x.chroma = some c → c.ok) :
    Codes next rest (if highProfiles.contains x.profile.toNat then readChroma next else Pure.pure false) x.chromaBits
      x.sepColour := by
  have hprofile : highProfiles.contains x.profile.toNat = true ↔ x.chroma.isSome = true :=
    List.contains_iff_mem.trans hsome.symm
  unfold SpsSyntax.chromaBits SpsSyntax.sepColour
  cases hx : x.chroma with
  | none =>
    rw [if_neg (hprofile.not.mpr (by simp [hx]))]
    exact .pure false
  | some c =>
    rw [if_pos (hprofile.mpr (by simp [hx]))]
    exact codes_readChroma h (hc c hx)

theorem codes_spsAfterBytes {x : SpsSyntax} (hx : x.ok) :
    Codes next rest (spsAfterBytes next (pocWith next (skipAllSes next)) x.profile) (tailBits x) (spsFields x) := by
  obtain ⟨hid, hsome, hchroma, hmfn, hpoc, hrefs, hwidth, hheight⟩ := hx
  exact .bind h (codes_readUe h hid) <| .bind h (codes_chroma h hsome hchroma) <| .bind h (codes_readUe h hmfn) <|
    .bind h (codes_pocWith h hpoc) <| .bind h (codes_readUe h hrefs) <| .bind h (codes_getBit h _) <|
    .bind h (codes_readUe h hwidth) <| .bind h (codes_readUe h hheight) <| .bind h (codes_getBit h _) (.pure _)

/-- As `Codes`, of a reader between two bytes. -/
def ByteCodes (next : Source σ) (rest : σ → List Byte) (m : Read σ α) (p : List Bool) (v : α) : Prop :=
  ∀ r : Reader σ, r.bits.nbits = 0 → beginsWith (r.left rest) p → m r = (v, (bitStep next)^[p.length] r)

omit h in
theorem Codes.byteCodes {m : Read σ α} {p : List Bool} {v : α} (hm : Codes next rest m p v) : ByteCodes next rest m p v :=
  fun r _ => hm r

theorem ByteCodes.byte_bind {f : Byte → Read σ α} {b : Byte} {q : List Bool} {v : α} (hf : ByteCodes next rest (f b) q v) :
    ByteCodes next rest (readByte next >>= f) (byteBits b ++ q) v := by
  intro r hn hr
  obtain ⟨hp, hq⟩ := (beginsWith_append _ _ _).mp hr
  have hn' : ((bitStep next)^[8] r).bits.nbits = 0 := by rw [h.eight_bitSteps hn, h.fetch_nbits, hn]
  have hq' := (beginsWith_congr (fun i => h.left_bitSteps 8 r i) q).mpr hq
  have hbind : (readByte next >>= f) r = f (readByte next r).1 (readByte next r).2 := rfl
  rw [hbind, h.readByte_of_beginsWith hn hp, hf _ hn' hq', ← Function.iterate_add_apply, List.length_append, Nat.add_comm]
  rfl

/-- An SPS read to the letter gives the fields it was written with and takes just its bits. -/
theorem readWholeSps_of_beginsWith {x : SpsSyntax} (hx : x.ok) {r : Reader σ} (hn : r.bits.nbits = 0)
    (hr : beginsWith (r.left rest) x.bits) : readWholeSps next r = (spsFields x, (bitStep next)^[x.bits.length] r) := by
  rw [readWholeSps_eq]
  have hcodes : ByteCodes next rest (spsWith next (pocWith next (skipAllSes next))) x.bits (spsFields x) :=
    .byte_bind h <| .byte_bind h <| .byte_bind h (codes_spsAfterBytes h hx).byteCodes
  exact hcodes r hn hr

/-! ## Where the reader then stands -/

/-- Bits taken between two bytes fetch a byte for every eight begun. -/
theorem Lists.bitSteps_src (n : Nat) {r : Reader σ} (hn : r.bits.nbits = 0) :
    ((bitStep next)^[n] r).src = ((fun r => (fetch next r).2)^[(n + 7) / 8] r).src := by
  induction n using Nat.strong_induction_on generalizing r with
  | _ n ih =>
    rcases Nat.lt_or_ge n 8 with h8 | h8
    · rcases n with _ | n
      · rfl
      · rw [bitStep_iterate_of_nbits_zero hn (by omega), show (n + 1 + 7) / 8 = 1 by omega]
        rfl
    · obtain ⟨m, rfl⟩ : ∃ m, n = m + 8 := ⟨n - 8, by omega⟩
      rw [Function.iterate_add_apply, h.eight_bitSteps hn, ih m (by omega) ((h.fetch_nbits r).trans hn),
        show (m + 8 + 7) / 8 = (m + 7) / 8 + 1 by omega, Function.iterate_succ_apply]

end

/-- Bytes before the end of a list are fetched as if the list went no further (41_bitreader.md R113). -/
theorem fetched_append {z : Nat} {p : List Byte} (l : List Byte) (hp : withoutEscapes z p ≠ []) :
    fetched false z (p ++ l) = fetched false z p := by
  rcases p with _ | ⟨b, _ | ⟨c, p⟩⟩
  · exact absurd rfl hp
  · have hb : ¬(2 ≤ z ∧ b = 3#8) := fun hb => hp (by simp [withoutEscapes, hb])
    simp [fetched, hb]
  · rfl

theorem withoutEscapes_append_ne_nil {z : Nat} {p : List Byte} (l : List Byte) (hp : withoutEscapes z p ≠ []) :
    withoutEscapes z (p ++ l) ≠ [] := by
  rcases p with _ | ⟨b, _ | ⟨c, p⟩⟩
  · exact absurd rfl hp
  · have hb : ¬(2 ≤ z ∧ b = 3#8) := fun hb => hp (by simp [withoutEscapes, hb])
    rcases l with _ | ⟨c, l⟩ <;> simp [withoutEscapes, hb]
  · rw [List.cons_append, List.cons_append, withoutEscapes]
    split_ifs <;> exact List.cons_ne_nil _ _

theorem delivered_of_escaped {c : BitCursor} (hraw : c.raw = false) (l : List Byte) :
    delivered c l = withoutEscapes c.zeros l := by
  rw [delivered, hraw]
  rfl

/-- With nothing to deliver in the packet, a fetch goes beyond it. -/
theorem length_lt_fetched {z : Nat} {p l : List Byte} (hp : withoutEscapes z p = []) :
    p.length < (fetched false z (p ++ l)).2.1 + if (withoutEscapes z (p ++ l)).isEmpty then 1 else 0 := by
  rcases p with _ | ⟨b, _ | ⟨c, p⟩⟩
  · rcases l with _ | ⟨b, _ | ⟨c, l⟩⟩
    · simp [fetched, withoutEscapes]
    all_goals by_cases hb : 2 ≤ z ∧ b = 3#8 <;> simp [fetched, withoutEscapes, hb]
  · have hb : 2 ≤ z ∧ b = 3#8 := by
      by_contra hb
      simp [withoutEscapes, hb] at hp
    rcases l with _ | ⟨c, l⟩ <;> simp [fetched, withoutEscapes, hb]
  · unfold withoutEscapes at hp
    split_ifs at hp

/-- The bytes of the packet at and beyond the reader's place. -/
def packetRest (V : View) (x : HeaderSource) : List Byte := (List.range (188 - x.pos)).map fun i => V.get (x.pos + i)

theorem packetRest_length (V : View) (x : HeaderSource) : (packetRest V x).length = 188 - x.pos := by simp [packetRest]

theorem headerRest_eq (V : View) (x : HeaderSource) : headerRest V x = packetRest V x ++ x.ahead := rfl

theorem packetRest_drop (V : View) {x y : HeaderSource} {n : Nat} (hy : y.pos = x.pos + n) :
    (packetRest V x).drop n = packetRest V y := by
  refine List.ext_getElem (by simp [packetRest, hy]; omega) fun i _ _ => ?_
  simp [packetRest, hy, Nat.add_assoc]

theorem headerNext_pos (V : View) (k : Nat) (x : HeaderSource) (hx : x.pos ≤ 188) :
    ((headerNext V).after^[k] x).pos = min 188 (x.pos + k) ∧
      ((headerNext V).after^[k] x).left = (x.left || decide (188 < x.pos + k)) := by
  induction k generalizing x with
  | zero => simp [hx]
  | succ k ih =>
    rw [Function.iterate_succ_apply, Source.after]
    rcases Nat.lt_or_ge x.pos 188 with h | h
    · rw [headerNext_inside h]
      obtain ⟨hp, hl⟩ := ih { x with pos := x.pos + 1 } h
      exact ⟨hp.trans (by simp only; omega), hl.trans (by simp only [Nat.add_right_comm, Nat.add_assoc])⟩
    · rw [headerNext_outside h]
      obtain ⟨hp, hl⟩ := ih { x with left := true, ahead := x.ahead.tail } hx
      refine ⟨hp.trans (by simp only; omega), hl.trans ?_⟩
      rw [decide_eq_true (by omega : 188 < x.pos + (k + 1)), Bool.or_true]
      rfl

/-- Where a fetch leaves the reader (45_frame_detector.md R199). -/
theorem fetch_place {V : View} {r : Reader HeaderSource} {n : Nat} (hpos : r.src.pos ≤ 188)
    (hn : n = (r.fetched (headerRest V)).2.1 + if (r.bytesLeft (headerRest V)).isEmpty then 1 else 0) :
    (fetch (headerNext V) r).2.src.pos = min 188 (r.src.pos + n) ∧
      (fetch (headerNext V) r).2.src.left = (r.src.left || decide (188 < r.src.pos + n)) := by
  rw [(headerNext_lists V).fetch_eq, hn]
  exact headerNext_pos V _ r.src hpos

/-- A byte that the packet has is fetched inside it. -/
theorem fetch_inside {V : View} {r : Reader HeaderSource} (hraw : r.bits.raw = false) (hpos : r.src.pos ≤ 188)
    (hp : withoutEscapes r.bits.zeros (packetRest V r.src) ≠ []) :
    (fetch (headerNext V) r).2.src.pos = r.src.pos + (fetched false r.bits.zeros (packetRest V r.src)).2.1 ∧
      (fetch (headerNext V) r).2.src.pos ≤ 188 ∧ (fetch (headerNext V) r).2.src.left = r.src.left ∧
      (fetch (headerNext V) r).2.bits.zeros = (fetched false r.bits.zeros (packetRest V r.src)).2.2 := by
  have hfetched : r.fetched (headerRest V) = fetched false r.bits.zeros (packetRest V r.src) := by
    rw [Reader.fetched, hraw, headerRest_eq, fetched_append _ hp]
  have hle : (fetched false r.bits.zeros (packetRest V r.src)).2.1 ≤ 188 - r.src.pos := by
    rw [← packetRest_length V]
    rcases delivered_cases { r.bits with raw := false } (packetRest V r.src) with ⟨-, -, hn⟩ | ⟨-, hn⟩
    · exact hn.le
    · exact hn
  have hleft : (r.bytesLeft (headerRest V)).isEmpty = false := by
    rw [Reader.bytesLeft, delivered_of_escaped hraw, headerRest_eq, List.isEmpty_eq_false_iff]
    exact withoutEscapes_append_ne_nil _ hp
  obtain ⟨hplace, hl⟩ := fetch_place (V := V) hpos rfl
  rw [hleft, hfetched] at hplace hl
  simp only [Bool.false_eq_true, if_false, Nat.add_zero] at hplace hl
  refine ⟨by omega, by omega, ?_, ?_⟩
  · rw [hl, decide_eq_false (by omega), Bool.or_false]
  · rw [(headerNext_lists V).fetch_eq, ← hfetched]

/-- A byte that the packet has not takes the reader out of it. -/
theorem fetch_beyond {V : View} {r : Reader HeaderSource} (hraw : r.bits.raw = false) (hpos : r.src.pos ≤ 188)
    (hp : withoutEscapes r.bits.zeros (packetRest V r.src) = []) :
    (fetch (headerNext V) r).2.src.pos ≤ 188 ∧ (fetch (headerNext V) r).2.src.left = true := by
  have hbeyond := length_lt_fetched (l := r.src.ahead) hp
  obtain ⟨hplace, hl⟩ := fetch_place (V := V) hpos rfl
  rw [Reader.fetched, Reader.bytesLeft, delivered_of_escaped hraw, hraw, headerRest_eq] at hplace hl
  rw [packetRest_length] at hbeyond
  refine ⟨by omega, ?_⟩
  rw [hl, decide_eq_true (by omega), Bool.or_true]

/-- A reader that has left the packet never comes back. -/
theorem left_fetches {V : View} (k : Nat) {r : Reader HeaderSource} (hpos : r.src.pos ≤ 188) (hl : r.src.left = true) :
    ((fun r => (fetch (headerNext V) r).2)^[k] r).src.left = true := by
  induction k generalizing r with
  | zero => exact hl
  | succ k ih =>
    obtain ⟨hplace, hl'⟩ := fetch_place (V := V) hpos rfl
    exact ih (hplace.trans_le (min_le_left _ _)) (by rw [hl', hl, Bool.true_or])

/-- Bytes that the packet has are fetched inside it; one that it has not takes the reader out of it (45_frame_detector.md R199). -/
theorem fetches_place {V : View} (k : Nat) {r : Reader HeaderSource} (hraw : r.bits.raw = false) (hpos : r.src.pos ≤ 188)
    (hl : r.src.left = false) :
    (k ≤ (withoutEscapes r.bits.zeros (packetRest V r.src)).length →
      ((fun r => (fetch (headerNext V) r).2)^[k] r).src.left = false ∧
        ((fun r => (fetch (headerNext V) r).2)^[k] r).src.pos =
          r.src.pos + fetchedFor k r.bits.zeros (packetRest V r.src)) ∧
    ((withoutEscapes r.bits.zeros (packetRest V r.src)).length < k →
      ((fun r => (fetch (headerNext V) r).2)^[k] r).src.left = true) := by
  induction k generalizing r with
  | zero => exact ⟨fun _ => ⟨hl, rfl⟩, nofun⟩
  | succ k ih =>
    rw [Function.iterate_succ_apply]
    by_cases hnil : withoutEscapes r.bits.zeros (packetRest V r.src) = []
    · obtain ⟨hpos', hl'⟩ := fetch_beyond hraw hpos hnil
      exact ⟨fun hk => by simp [hnil] at hk, fun _ => left_fetches k hpos' hl'⟩
    · obtain ⟨hplace, hpos', hl', hz⟩ := fetch_inside hraw hpos hnil
      have hraw' := (fetch_raw (headerNext V) r).trans hraw
      obtain ⟨hinside, hbeyond⟩ := ih hraw' hpos' (hl'.trans hl)
      have htail : withoutEscapes (fetch (headerNext V) r).2.bits.zeros (packetRest V (fetch (headerNext V) r).2.src) =
          (withoutEscapes r.bits.zeros (packetRest V r.src)).tail := by
        have hdrop := delivered_drop_fetched r.bits (packetRest V r.src) (c' := (fetch (headerNext V) r).2.bits)
          (hraw'.trans hraw.symm) (by rw [hz, hraw])
        rwa [delivered_of_escaped hraw', delivered_of_escaped hraw, hraw, packetRest_drop V hplace] at hdrop
      have hlength := List.length_pos_iff.mpr hnil
      rw [htail, List.length_tail] at hinside hbeyond
      refine ⟨fun hk => ?_, fun hk => hbeyond (by omega)⟩
      obtain ⟨hleft, hsrc⟩ := hinside (by omega)
      refine ⟨hleft, ?_⟩
      rw [hsrc, hplace, hz, ← packetRest_drop V hplace, Nat.add_assoc]
      rfl

theorem packetRest_headerReader (s : State) (pos : Nat) :
    packetRest s.inputView (headerReader pos (lookahead s.inputView s.fdCfg.pid) false).src = packetAfter s pos := by
  have hn : 188 - (pos + 1) = 187 - pos := by omega
  simp only [packetRest, headerReader, packetAfter, State.inputView_get_eq, hn]

theorem left_headerReader (s : State) (pos : Nat) :
    (headerReader pos (lookahead s.inputView s.fdCfg.pid) false).left (headerRest s.inputView) = headerBits s pos :=
  congrArg (fun l => (withoutEscapes 0 l).flatMap byteBits) (headerRest_headerReader s pos false)

/-- The SPS of a header reader, and its place, where its bits begin with those of a syntax. -/
theorem spsReadAt_of_beginsWith {s : State} {pos : Nat} {x : SpsSyntax} (hx : x.ok)
    (hbits : beginsWith (headerBits s pos) x.bits) :
    (spsReadAt s pos).1 = spsFields x ∧
      (spsReadAt s pos).2.src = ((fun r => (fetch (headerNext s.inputView) r).2)^[(x.bits.length + 7) / 8]
        (headerReader pos (lookahead s.inputView s.fdCfg.pid) false)).src := by
  rw [spsReadAt]
  have hlists := headerNext_lists s.inputView
  have hread := readWholeSps_of_beginsWith hlists hx (r := headerReader pos (lookahead s.inputView s.fdCfg.pid) false) rfl
    (left_headerReader s pos ▸ hbits)
  obtain ⟨hfields, hsrc⟩ := readSps_agrees s.inputView pos (lookahead s.inputView s.fdCfg.pid)
  rw [hread] at hfields hsrc
  rw [hlists.bitSteps_src x.bits.length rfl] at hsrc
  exact ⟨hfields, hsrc⟩

end Sys2Proof.Machine

namespace Sys2Proof.Proofs

open Sys2Proof.Machine Sys2Proof.Claims

/-- Settles O53: each code gives its value and takes its own bits, and a byte is fetched for every eight bits begun. -/
theorem spsFieldsRead : Obligations.SpsFieldsRead := by
  intro s pos x hpos hx hbits
  obtain ⟨hfields, hsrc⟩ := spsReadAt_of_beginsWith hx hbits
  obtain ⟨hinside, hbeyond⟩ := fetches_place (V := s.inputView) ((x.bits.length + 7) / 8)
    (r := headerReader pos (lookahead s.inputView s.fdCfg.pid) false) rfl hpos rfl
  rw [packetRest_headerReader, ← hsrc] at hinside hbeyond
  exact ⟨hfields, fun h => hinside (by show _ ≤ (withoutEscapes 0 _).length; omega),
    fun h => hbeyond (by show (withoutEscapes 0 _).length < _; omega)⟩

end Sys2Proof.Proofs
end

section
/-! The slice header by the bits left, and the H.264 scan from point to point (45_frame_detector.md R202, R205, R206, R208). -/

namespace Sys2Proof.Machine

open Sys2Proof.Claims

/-! ## A slice header by the bits left -/

section

variable {σ : Type} {next : Source σ} {rest : σ → List Byte}

/-- The reader has the bits `l` left, zeros following. -/
def HasLeft (rest : σ → List Byte) (l : List Bool) (r : Reader σ) : Prop :=
  ∀ i, (r.left rest).getD i false = l.getD i false

variable (h : Lists next rest) {l : List Bool} {r : Reader σ} (hl : HasLeft rest l r)
include h hl

theorem HasLeft.bitSteps (n : Nat) : HasLeft rest (l.drop n) ((bitStep next)^[n] r) := fun i =>
  (h.left_bitSteps n r i).trans (getD_drop_congr hl n i)

theorem HasLeft.getBit_eq : getBit next r = (l.headD false, bitStep next r) :=
  Prod.ext ((h.getBit_spec r).1.trans (by rw [List.headD_eq_getD, List.headD_eq_getD, hl])) rfl

theorem HasLeft.readUe_eq : readUe next r = ((ueOf l).2.2, (bitStep next)^[(ueOf l).2.1] r) := by
  rw [h.readUe_eq, ueOf_congr hl]

/-- field_pic_flag and bottom_field_flag of the bits left (45_frame_detector.md R208). -/
theorem HasLeft.readFieldBits_eq (flags : FdH264) :
    (readFieldBits next flags r).1 =
      (!flags.frameMbsOnly && l.headD false, !flags.frameMbsOnly && l.headD false && (l.drop 1).headD false) := by
  have hbottom := HasLeft.getBit_eq h (HasLeft.bitSteps h hl 1)
  have hpic := HasLeft.getBit_eq h hl
  unfold readFieldBits
  cases flags.frameMbsOnly with
  | true => rfl
  | false =>
    have hread : ∀ x : Bool × Reader σ, getBit next r = x →
        ((getBit next >>= fun fieldPic => (if fieldPic then getBit next else pure false) >>= fun bottom =>
          pure (fieldPic, bottom) : Read σ (Bool × Bool)) r) =
        ((if x.1 then getBit next else pure false) >>= fun bottom => pure (x.1, bottom) : Read σ (Bool × Bool)) x.2 := by
      rintro x rfl
      rfl
    refine (congrArg Prod.fst (hread _ hpic)).trans ?_
    cases l.headD false with
    | false => rfl
    | true => exact congrArg (fun b => (true, b)) (congrArg Prod.fst hbottom)

omit h hl in
theorem sliceWith_value (next : Source σ) (skip : Read σ Unit) (flags : FdH264) (r : Reader σ) :
    (sliceWith next skip flags r).1 =
      { sliceType := (readUe next (readUe next r).2).1.1
        fieldPic := (readFieldBits next flags (skip (getBits next (if flags.sepColourPlane then 2 else 0)
          (readUe next (readUe next (readUe next r).2).2).2).2).2).1.1
        bottom := (readFieldBits next flags (skip (getBits next (if flags.sepColourPlane then 2 else 0)
          (readUe next (readUe next (readUe next r).2).2).2).2).2).1.2 } := rfl

/-- A slice header by the bits left, its frame_num skipped whole (45_frame_detector.md R208). -/
theorem HasLeft.sliceWith_eq (flags : FdH264) (log2mfn : Word) :
    (sliceWith next (skipAllBits next log2mfn.toNat) flags r).1 =
      { sliceType := (sliceOf flags log2mfn l).1, fieldPic := (sliceOf flags log2mfn l).2.1
        bottom := (sliceOf flags log2mfn l).2.2 } := by
  have h1 := HasLeft.bitSteps h hl (ueOf l).2.1
  have h2 := HasLeft.bitSteps h h1 (ueOf (l.drop (ueOf l).2.1)).2.1
  have h3 := HasLeft.bitSteps h h2 (ueOf ((l.drop (ueOf l).2.1).drop (ueOf (l.drop (ueOf l).2.1)).2.1)).2.1
  have h4 := HasLeft.bitSteps h h3 ((if flags.sepColourPlane then 2 else 0) + log2mfn.toNat)
  rw [Nat.add_comm, Function.iterate_add_apply] at h4
  rw [sliceWith_value, HasLeft.readUe_eq h hl, HasLeft.readUe_eq h h1, HasLeft.readUe_eq h h2, skipAllBits_reader,
    getBits, getBitsFrom_reader, HasLeft.readFieldBits_eq h h4, Nat.add_comm log2mfn.toNat]
  rfl

end

/-! ## A slice header as it was written -/

/-- The field bits of a slice header that was written (45_frame_detector.md R208). -/
theorem fieldBits_of_beginsWith {flags : FdH264} {log2mfn : Word} {x : SliceSyntax} (hx : x.ok flags log2mfn) {l : List Bool}
    (h : beginsWith l (if flags.frameMbsOnly then [] else x.fieldPic :: (if x.fieldPic then [x.bottomField] else []))) :
    (!flags.frameMbsOnly && l.headD false) = x.fieldPic ∧ (x.fieldPic && (l.drop 1).headD false) = x.bottomField := by
  obtain ⟨-, -, -, -, hmbs, hbottom⟩ := hx
  cases hm : flags.frameMbsOnly with
  | true =>
    have hpic := hmbs hm
    exact ⟨hpic.symm, by rw [hbottom hpic, hpic]; rfl⟩
  | false =>
    rw [hm, if_neg (by decide), beginsWith_cons] at h
    obtain ⟨hhead, htail⟩ := h
    refine ⟨hhead, ?_⟩
    cases hp : x.fieldPic with
    | false => exact (hbottom hp).symm
    | true =>
      rw [hp, if_pos rfl] at htail
      exact ((beginsWith_cons _ _ _).mp htail).1

/-- Where the bits begin with those of a slice header, its fields are read (45_frame_detector.md R208). -/
theorem sliceOf_of_beginsWith {flags : FdH264} {log2mfn : Word} {x : SliceSyntax} {l : List Bool} (hx : x.ok flags log2mfn)
    (h : beginsWith l (x.bits flags)) : sliceOf flags log2mfn l = (x.sliceType, x.fieldPic, x.bottomField) := by
  have hfields := fun l => fieldBits_of_beginsWith hx (l := l)
  obtain ⟨hmb, htype, hpps, hframe, -, -⟩ := hx
  have hplane : (if flags.sepColourPlane then bitsOf 2 x.colourPlane.toNat else []).length =
      if flags.sepColourPlane then 2 else 0 := by split_ifs <;> simp
  simp only [SliceSyntax.bits, List.flatten_cons, List.flatten_nil, List.append_nil, beginsWith_append, hplane, hframe,
    List.drop_drop] at h
  obtain ⟨h1, h2, h3, -, -, h4⟩ := h
  have hue1 := ueOf_of_beginsWith hmb h1
  have hue2 := ueOf_of_beginsWith htype h2
  have hue3 := ueOf_of_beginsWith hpps h3
  simp only [sliceOf, hue1, hue2, List.drop_drop, hue3]
  obtain ⟨hpic, hbottom⟩ := hfields _ h4
  rw [List.drop_drop] at hbottom
  simp only [← Nat.add_assoc, hpic, hbottom]

/-! ## Points of the scan -/

/-- What the scan holds at a point: no frame reported yet. -/
def pointState (a : H264Point) : ScanState :=
  { scanner := BitVec.ofNat 32 a.scanner, flags := a.flags, log2mfn := a.log2mfn, result := .zero }

/-- The scan of the packet from a point on (45_frame_detector.md R202). -/
def scanFrom (s : State) (fuel : Nat) (a : H264Point) : ScanState :=
  h264Scan s.inputView (lookahead s.inputView s.fdCfg.pid) fuel a.pos (pointState a)

/-- The point after a byte passed over. -/
def passedPoint (s : State) (a : H264Point) : H264Point := { a with pos := a.pos + 1, scanner := a.next s }

/-- The point after a delimiter. -/
def delimitedPoint (s : State) (a : H264Point) : H264Point :=
  { a with pos := a.pos + 1, scanner := a.next s, flags := { a.flags with gotAud := true } }

/-- The point after an SPS: where its reader stands. -/
def spsPoint (s : State) (a : H264Point) : H264Point :=
  { pos := (spsReadAt s a.pos).2.src.pos, scanner := a.next s, log2mfn := (spsReadAt s a.pos).1.log2mfn
    flags :=
      { a.flags with
        gotSps := true, frameMbsOnly := (spsReadAt s a.pos).1.frameMbsOnly
        sepColourPlane := (spsReadAt s a.pos).1.sepColourPlane } }

/-- The slice at a point (45_frame_detector.md R208). -/
def sliceReadAt (s : State) (a : H264Point) : SliceFields :=
  (readSlice (headerNext s.inputView) a.flags a.log2mfn
    (headerReader a.pos (lookahead s.inputView s.fdCfg.pid) false)).1

/-- What the scan leaves at a slice it classifies. -/
def classifiedState (s : State) (a : H264Point) : ScanState :=
  { scanner := BitVec.ofNat 32 (a.next s), flags := { a.flags with gotAud := false }, log2mfn := a.log2mfn
    result := classifySlice (sliceReadAt s a) a.pos }

section

variable {s : State} {a : H264Point} {fuel : Nat}

theorem point_next_lt (s : State) (a : H264Point) : a.next s < 2 ^ 32 := by
  have hbyte := byteAt_lt s a.pos
  rw [H264Point.next]
  omega

theorem scanByte_point (s : State) (a : H264Point) :
    scanByte (BitVec.ofNat 32 a.scanner) (s.inputView.get a.pos) = BitVec.ofNat 32 (a.next s) := by
  have hlt := point_next_lt s a
  refine BitVec.eq_of_toNat_eq ?_
  rw [scanByte_toNat, BitVec.toNat_ofNat, BitVec.toNat_ofNat, Nat.mod_eq_of_lt hlt, State.inputView_get_toNat, H264Point.next]
  omega

/-- `00 00 01` and one byte more (45_frame_detector.md R202). -/
theorem startCode_iff {n : Nat} (hn : n < 2 ^ 32) :
    BitVec.ofNat 32 n &&& 0xFFFFFF00#32 = 0x00000100#32 ↔ n / 256 = 1 := by
  rw [← BitVec.toNat_inj, BitVec.toNat_and, BitVec.toNat_ofNat, Nat.mod_eq_of_lt hn]
  have hmask : n &&& 0xFFFFFF00 = n / 2 ^ 8 % 2 ^ 24 * 2 ^ 8 := and_mask n 8 24
  show n &&& 0xFFFFFF00 = 0x100 ↔ _
  rw [hmask]
  omega

/-- One byte of the scan (45_frame_detector.md R202). -/
theorem scanFrom_succ (hpos : a.pos < 188) :
    scanFrom s (fuel + 1) a =
      if a.next s / 256 = 1 then
        if nalType s a.pos = 9 then scanFrom s fuel (delimitedPoint s a)
        else if nalType s a.pos = 7 then
          if (spsReadAt s a.pos).2.src.left then pointState (spsPoint s a) else scanFrom s fuel (spsPoint s a)
        else if (nalType s a.pos = 1 ∨ nalType s a.pos = 5) ∧ a.flags.gotAud = true ∧ a.flags.gotSps = true then
          classifiedState s a
        else scanFrom s fuel (passedPoint s a)
      else scanFrom s fuel (passedPoint s a) := by
  have hbyte : (s.inputView.get a.pos).toNat % 32 = nalType s a.pos := by rw [State.inputView_get_toNat, nalType]
  obtain ⟨p, H, hread⟩ : ∃ p H, spsReadAt s a.pos = (p, H) := ⟨_, _, Prod.mk.eta.symm⟩
  rw [scanFrom, h264Scan, if_pos hpos]
  simp only [pointState, scanByte_point, startCode_iff (point_next_lt s a), hbyte, spsPoint, hread]
  rw [spsReadAt] at hread
  simp only [hread]
  rfl

/-- The slice at a point is the one its header bits spell (45_frame_detector.md R208, R209). -/
theorem sliceReadAt_eq (s : State) (a : H264Point) :
    sliceReadAt s a =
      { sliceType := (sliceOf a.flags a.log2mfn (headerBits s a.pos)).1
        fieldPic := (sliceOf a.flags a.log2mfn (headerBits s a.pos)).2.1
        bottom := (sliceOf a.flags a.log2mfn (headerBits s a.pos)).2.2 } := by
  rw [sliceReadAt, readSlice_agrees, readWholeSlice_eq]
  exact HasLeft.sliceWith_eq (headerNext_lists s.inputView) (fun i => by rw [left_headerReader]) a.flags a.log2mfn

/-! ## The rules of the scan -/

theorem scanFrom_end (hpos : 188 ≤ a.pos) : scanFrom s fuel a = pointState a := by
  cases fuel with
  | zero => rfl
  | succ fuel => exact if_neg (by omega)

theorem scanFrom_passed (hpos : a.pos < 188)
    (h : a.nal s → nalType s a.pos ≠ 7 ∧ nalType s a.pos ≠ 9 ∧ ¬a.classifies s) :
    scanFrom s (fuel + 1) a = scanFrom s fuel (passedPoint s a) := by
  rw [scanFrom_succ hpos]
  by_cases hnal : a.next s / 256 = 1
  · obtain ⟨h7, h9, hslice⟩ := h ⟨hpos, hnal⟩
    rw [if_pos hnal, if_neg h9, if_neg h7]
    exact if_neg hslice
  · rw [if_neg hnal]

variable (hnal : a.nal s)
include hnal

theorem scanFrom_delimited (h9 : nalType s a.pos = 9) : scanFrom s (fuel + 1) a = scanFrom s fuel (delimitedPoint s a) := by
  rw [scanFrom_succ hnal.1, if_pos hnal.2, if_pos h9]

theorem scanFrom_spsInside (h7 : nalType s a.pos = 7) (hl : (spsReadAt s a.pos).2.src.left = false) :
    scanFrom s (fuel + 1) a = scanFrom s fuel (spsPoint s a) := by
  rw [scanFrom_succ hnal.1, if_pos hnal.2, if_neg (by omega), if_pos h7, hl]
  exact if_neg Bool.false_ne_true

theorem scanFrom_spsBeyond (h7 : nalType s a.pos = 7) (hl : (spsReadAt s a.pos).2.src.left = true) :
    scanFrom s (fuel + 1) a = pointState (spsPoint s a) := by
  rw [scanFrom_succ hnal.1, if_pos hnal.2, if_neg (by omega), if_pos h7, if_pos hl]

theorem scanFrom_slice (h : a.classifies s) : scanFrom s (fuel + 1) a = classifiedState s a := by
  have h9 : nalType s a.pos ≠ 9 := by rcases h.1 with h | h <;> omega
  have h7 : nalType s a.pos ≠ 7 := by rcases h.1 with h | h <;> omega
  rw [scanFrom_succ hnal.1, if_pos hnal.2, if_neg h9, if_neg h7]
  exact if_pos h

end

/-! ## The points reached -/

/-- What the scan can find at a point of the packet (45_frame_detector.md R202). -/
theorem point_cases (s : State) (a : H264Point) :
    (a.nal s → nalType s a.pos ≠ 7 ∧ nalType s a.pos ≠ 9 ∧ ¬a.classifies s) ∨
      (a.nal s ∧ (nalType s a.pos = 9 ∨ nalType s a.pos = 7 ∨ a.classifies s)) := by
  by_cases hnal : a.nal s
  · by_cases h : nalType s a.pos = 9 ∨ nalType s a.pos = 7 ∨ a.classifies s
    · exact .inr ⟨hnal, h⟩
    · exact .inl fun _ => ⟨fun h7 => h (.inr (.inl h7)), fun h9 => h (.inl h9), fun hc => h (.inr (.inr hc))⟩
  · exact .inl fun h => absurd h hnal

section

variable {s : State} {a : H264Point}

theorem spsReadAt_standsFrom (s : State) {pos : Nat} (hpos : pos < 188) :
    StandsFrom (pos + 1) (spsReadAt s pos).2.src := by
  rw [spsReadAt]
  exact readSps_standsFrom s.inputView hpos (lookahead s.inputView s.fdCfg.pid)

theorem H264Reaches_spsPoint (h : H264Reaches s a) (hnal : a.nal s) (h7 : nalType s a.pos = 7)
    (hl : (spsReadAt s a.pos).2.src.left = false) : H264Reaches s (spsPoint s a) :=
  .spsInside h hnal h7 Prod.mk.eta.symm hl

theorem H264Reaches_scanner_lt (h : H264Reaches s a) : a.scanner < 2 ^ 32 := by
  cases h with
  | start => exact scannerBefore_lt s
  | passesOver _ _ _ => exact point_next_lt s _
  | delimiter _ _ _ => exact point_next_lt s _
  | spsInside _ _ _ _ _ => exact point_next_lt s _

/-- What the parser does with the packet is what it does from any point reached (45_frame_detector.md R202). -/
theorem parsed_of_reaches (hk : s.fdCfg.kind = .h264) (h : H264Reaches s a) :
    ∃ fuel, 188 ≤ fuel + a.pos ∧ s.parsed = scanFrom s fuel a := by
  induction h with
  | start =>
    refine ⟨188, Nat.le_add_right _ _, ?_⟩
    have hscanner : (s.scanState (tsFields s.inputView)).scanner = BitVec.ofNat 32 (scannerBefore s) := by
      rw [← s.scanState_scanner_toNat, BitVec.ofNat_toNat, BitVec.setWidth_eq]
    rw [State.parsed_h264 hk, scanStart_inputView, scanFrom, pointState, ← hscanner]
    rfl
  | @passesOver a _ hpos hnot ih =>
    obtain ⟨fuel, hfuel, hscan⟩ := ih
    obtain ⟨fuel, rfl⟩ : ∃ n, fuel = n + 1 := ⟨fuel - 1, by omega⟩
    exact ⟨fuel, by simp only; omega, hscan.trans (scanFrom_passed hpos hnot)⟩
  | @delimiter a _ hnal h9 ih =>
    obtain ⟨fuel, hfuel, hscan⟩ := ih
    obtain ⟨fuel, rfl⟩ : ∃ n, fuel = n + 1 := ⟨fuel - 1, by have := hnal.1; omega⟩
    exact ⟨fuel, by simp only; omega, hscan.trans (scanFrom_delimited hnal h9)⟩
  | @spsInside a p H _ hnal h7 hread hl ih =>
    obtain ⟨fuel, hfuel, hscan⟩ := ih
    have hpos := hnal.1
    obtain ⟨fuel, rfl⟩ : ∃ n, fuel = n + 1 := ⟨fuel - 1, by omega⟩
    obtain ⟨hlo, -⟩ := spsReadAt_standsFrom s hpos
    have hstep := scanFrom_spsInside (fuel := fuel) hnal h7 (by rw [hread, hl])
    rw [hread] at hlo
    rw [spsPoint, hread] at hstep
    exact ⟨fuel, by simp only at hlo ⊢; omega, hscan.trans hstep⟩

end

end Sys2Proof.Machine
end

section
/-! The H.264 parser's outcomes (45_frame_detector.md R202, R205, R206, R208): at the packet's end, at a slice it classifies, at an
SPS; then the packet before its first header read, in closed form. -/

namespace Sys2Proof.Machine

open Sys2Proof.Claims

/-! ## Outcomes at a point reached -/

section

variable {s : State} {a : H264Point} (hk : s.fdCfg.kind = .h264) (h : H264Reaches s a)
include hk h

theorem parsed_at_end (hpos : 188 ≤ a.pos) : s.parsed = pointState a := by
  obtain ⟨fuel, -, hscan⟩ := parsed_of_reaches hk h
  exact hscan.trans (scanFrom_end hpos)

/-- From a point inside the packet the scan takes one step more. -/
theorem parsed_of_reaches_inside (hpos : a.pos < 188) : ∃ fuel, s.parsed = scanFrom s (fuel + 1) a := by
  obtain ⟨fuel, hfuel, hscan⟩ := parsed_of_reaches hk h
  obtain ⟨fuel, rfl⟩ : ∃ n, fuel = n + 1 := ⟨fuel - 1, by omega⟩
  exact ⟨fuel, hscan⟩

variable (hnal : a.nal s)
include hnal

theorem parsed_at_slice (hc : a.classifies s) : s.parsed = classifiedState s a := by
  obtain ⟨fuel, hscan⟩ := parsed_of_reaches_inside hk h hnal.1
  exact hscan.trans (scanFrom_slice hnal hc)

theorem parsed_at_spsBeyond (h7 : nalType s a.pos = 7) (hl : (spsReadAt s a.pos).2.src.left = true) :
    s.parsed = pointState (spsPoint s a) := by
  obtain ⟨fuel, hscan⟩ := parsed_of_reaches_inside hk h hnal.1
  exact hscan.trans (scanFrom_spsBeyond hnal h7 hl)

end

/-- GOT_SPS, once set, stays (45_frame_detector.md R206). -/
theorem h264Scan_gotSps (V : View) (ahead : List Byte) (fuel pos : Nat) {c : ScanState} (hc : c.flags.gotSps = true) :
    (h264Scan V ahead fuel pos c).flags.gotSps = true := by
  induction fuel generalizing pos c with
  | zero => exact hc
  | succ fuel ih =>
    unfold h264Scan
    simp only
    split_ifs
    · exact ih _ hc
    · rcases readSps (headerNext V) (headerReader pos ahead false) with ⟨p, H⟩
      simp only
      split_ifs
      · rfl
      · exact ih _ rfl
    · exact hc
    · exact ih _ hc
    · exact ih _ hc
    · exact hc

section

variable {s : State} {a : H264Point} (hk : s.fdCfg.kind = .h264)
include hk

/-- An SPS that the scan comes to sets GOT_SPS. -/
theorem parsed_gotSps (h : H264Reaches s a) (hnal : a.nal s) (h7 : nalType s a.pos = 7) : s.parsed.flags.gotSps = true := by
  cases hl : (spsReadAt s a.pos).2.src.left with
  | true => rw [parsed_at_spsBeyond hk h hnal h7 hl]; rfl
  | false =>
    obtain ⟨fuel, -, hscan⟩ := parsed_of_reaches hk (H264Reaches_spsPoint h hnal h7 hl)
    rw [hscan]
    exact h264Scan_gotSps _ _ _ _ rfl

/-- The fields of the last SPS and FD_LOG2MFN. -/
def SameSps (flags : FdH264) (log2mfn : Word) (c : ScanState) : Prop :=
  c.flags.frameMbsOnly = flags.frameMbsOnly ∧ c.flags.sepColourPlane = flags.sepColourPlane ∧ c.log2mfn = log2mfn

/-- With no SPS from a point on, the fields of the point stand at the packet's end (45_frame_detector.md R206). -/
theorem parsed_sameSps (n : Nat) (h : H264Reaches s a) (hn : 188 ≤ n + a.pos)
    (hno : ∀ b, H264Reaches s b → a.pos ≤ b.pos → b.nal s → nalType s b.pos ≠ 7) :
    SameSps a.flags a.log2mfn s.parsed := by
  induction n generalizing a with
  | zero => rw [parsed_at_end hk h (by omega)]; exact ⟨rfl, rfl, rfl⟩
  | succ n ih =>
    rcases Nat.lt_or_ge a.pos 188 with hpos | hpos
    · rcases point_cases s a with hpass | ⟨hnal, h9 | h7 | hc⟩
      · exact ih (a := passedPoint s a) (.passesOver h hpos hpass) (by simp only [passedPoint]; omega) fun b hb hle =>
          hno b hb ((Nat.le_succ _).trans hle)
      · exact ih (a := delimitedPoint s a) (.delimiter h hnal h9) (by simp only [delimitedPoint]; omega) fun b hb hle =>
          hno b hb ((Nat.le_succ _).trans hle)
      · exact absurd h7 (hno a h (Nat.le_refl _) hnal)
      · rw [parsed_at_slice hk h hnal hc]
        exact ⟨rfl, rfl, rfl⟩
    · rw [parsed_at_end hk h hpos]
      exact ⟨rfl, rfl, rfl⟩

end

/-! ## Before the first header read -/

theorem nalAt_pos {s : State} {pos : Nat} (h : nalAt s pos) : startAt s ≤ pos ∧ pos < 188 := h.1

theorem audBefore_succ (s : State) (pos : Nat) :
    audBefore s (pos + 1) ↔ audBefore s pos ∨ nalAt s pos ∧ nalType s pos = 9 := by
  unfold audBefore
  constructor
  · rintro (h | ⟨q, hq, hn⟩)
    · exact .inl (.inl h)
    · rcases Nat.lt_succ_iff_lt_or_eq.mp hq with hlt | rfl
      · exact .inl (.inr ⟨q, hlt, hn⟩)
      · exact .inr hn
  · rintro ((h | ⟨q, hq, hn⟩) | hn)
    · exact .inl h
    · exact .inr ⟨q, by omega, hn⟩
    · exact .inr ⟨pos, Nat.lt_succ_self _, hn⟩

/-- No delimiter stands before the scan start. -/
theorem audBefore_startAt (s : State) : audBefore s (startAt s) ↔ s.fdH264.gotAud = true :=
  or_iff_left fun ⟨_, hq, hn, _⟩ => absurd (nalAt_pos hn).1 (by omega)

/-- No delimiter stands beyond the packet. -/
theorem audBefore_max (s : State) : audBefore s (max 188 (startAt s)) ↔ audBefore s 188 :=
  or_congr Iff.rfl (exists_congr fun _ => and_congr_left fun hn => by have := nalAt_pos hn.1; omega)

/-- A point up to which the scan has passed over all but delimiters (45_frame_detector.md R202, R205). -/
structure Plain (s : State) (a : H264Point) : Prop where
  start : startAt s ≤ a.pos
  scanner : a.scanner = scannerIn s a.pos
  gotAud : a.flags.gotAud = true ↔ audBefore s a.pos
  flags : a.flags = { s.fdH264 with gotAud := a.flags.gotAud }
  log2mfn : a.log2mfn = s.fdLog2mfn

/-- No header is read of the NAL unit at `q` (45_frame_detector.md R202). -/
def notRead (s : State) (q : Nat) : Prop :=
  nalAt s q →
    nalType s q ≠ 7 ∧ ((nalType s q = 1 ∨ nalType s q = 5) → ¬(audBefore s q ∧ s.fdH264.gotSps = true))

namespace Plain

variable {s : State} {a : H264Point} (h : Plain s a)
include h

theorem next : a.next s = scannerAt s a.pos := by rw [H264Point.next, h.scanner, scannerAt_eq h.start]

theorem nal_iff : a.nal s ↔ nalAt s a.pos := by
  rw [H264Point.nal, h.next, nalAt, scans, and_iff_right h.start]

theorem gotSps : a.flags.gotSps = s.fdH264.gotSps := by rw [h.flags]

theorem classifies_iff :
    a.classifies s ↔ (nalType s a.pos = 1 ∨ nalType s a.pos = 5) ∧ audBefore s a.pos ∧ s.fdH264.gotSps = true := by
  rw [H264Point.classifies, h.gotAud, h.gotSps]

theorem passed (h9 : ¬(nalAt s a.pos ∧ nalType s a.pos = 9)) : Plain s (passedPoint s a) where
  start := h.start.trans (Nat.le_succ _)
  scanner := h.next.trans (scannerIn_succ h.start).symm
  gotAud := h.gotAud.trans ((audBefore_succ s a.pos).trans (or_iff_left h9)).symm
  flags := h.flags
  log2mfn := h.log2mfn

theorem delimited (h9 : nalAt s a.pos ∧ nalType s a.pos = 9) : Plain s (delimitedPoint s a) where
  start := h.start.trans (Nat.le_succ _)
  scanner := h.next.trans (scannerIn_succ h.start).symm
  gotAud := iff_of_true rfl ((audBefore_succ s a.pos).mpr (.inr h9))
  flags := by rw [delimitedPoint, h.flags]
  log2mfn := h.log2mfn

end Plain

/-- Up to the first header read the scan comes to every offset, as a plain point. -/
theorem reaches_plain {s : State} {pos : Nat} (hstart : startAt s ≤ pos) (hend : pos ≤ max 188 (startAt s))
    (hnot : ∀ q < pos, notRead s q) : ∃ a, H264Reaches s a ∧ a.pos = pos ∧ Plain s a := by
  induction pos, hstart using Nat.le_induction with
  | base =>
    exact ⟨_, .start, rfl, Nat.le_refl _, (scannerIn_startAt s).symm, (audBefore_startAt s).symm, rfl, rfl⟩
  | succ pos hle ih =>
    obtain ⟨a, hreach, rfl, hplain⟩ := ih (by omega) fun q hq => hnot q (by omega)
    have hpos : a.pos < 188 := by omega
    by_cases h9 : nalAt s a.pos ∧ nalType s a.pos = 9
    · exact ⟨delimitedPoint s a, .delimiter hreach (hplain.nal_iff.mpr h9.1) h9.2, rfl, hplain.delimited h9⟩
    · refine ⟨passedPoint s a, .passesOver hreach hpos fun hnal => ?_, rfl, hplain.passed h9⟩
      have hat := hplain.nal_iff.mp hnal
      obtain ⟨h7, hslice⟩ := hnot a.pos (Nat.lt_succ_self _) hat
      refine ⟨h7, fun hd => h9 ⟨hat, hd⟩, fun hc => ?_⟩
      obtain ⟨htype, haud⟩ := hplain.classifies_iff.mp hc
      exact hslice htype haud

/-- The first header read stands at a plain point. -/
theorem reaches_firstRead {s : State} {pos : Nat} (h : firstRead s pos) :
    ∃ a, H264Reaches s a ∧ a.pos = pos ∧ Plain s a ∧ a.nal s := by
  obtain ⟨hat, hnot⟩ := h
  obtain ⟨hstart, hend⟩ := nalAt_pos hat
  obtain ⟨a, hreach, rfl, hplain⟩ := reaches_plain hstart (by omega) hnot
  exact ⟨a, hreach, rfl, hplain, hplain.nal_iff.mpr hat⟩

/-- With no header read at all, the scan comes to the packet's end. -/
theorem reaches_packetEnd {s : State} (h : ∀ q, notRead s q) :
    ∃ a, H264Reaches s a ∧ a.pos = max 188 (startAt s) ∧ Plain s a :=
  reaches_plain (le_max_right _ _) (Nat.le_refl _) fun q _ => h q

/-- If no first header read is an SPS or a slice to classify, no header is read. -/
theorem notRead_of_no_firstRead {s : State}
    (h : ∀ pos, ¬(firstRead s pos ∧
      (nalType s pos = 7 ∨ ((nalType s pos = 1 ∨ nalType s pos = 5) ∧ audBefore s pos ∧ s.fdH264.gotSps = true))))
    (q : Nat) : notRead s q := by
  induction q using Nat.strong_induction_on with
  | _ q ih =>
    intro hat
    have hfirst : firstRead s q := ⟨hat, ih⟩
    exact ⟨fun h7 => h q ⟨hfirst, .inl h7⟩, fun htype haud => h q ⟨hfirst, .inr ⟨htype, haud⟩⟩⟩

/-! ## Outcomes in the words of the claims -/

/-- A scanner value as a word. -/
theorem ofNat_scanner_toNat {n : Nat} (h : n < 2 ^ 32) : (BitVec.ofNat 32 n).toNat = n := by
  rw [BitVec.toNat_ofNat, Nat.mod_eq_of_lt h]

/-- What a classified slice leaves, in the words of the claims (45_frame_detector.md R208). -/
theorem classified_of_sliceOf {s : State} {a : H264Point} {sliceType : Nat} {fieldPic bottom : Bool}
    (h : sliceOf a.flags a.log2mfn (headerBits s a.pos) = (sliceType, fieldPic, bottom)) :
    (classifiedState s a).result =
      { newFrame := !(fieldPic && bottom), indepFrame := !(fieldPic && bottom) && decide (sliceType % 5 = 2)
        frameType := BitVec.ofNat 3 (sliceType % 5), fieldPic := fieldPic, bottomField := bottom
        startOff := BitVec.ofNat 8 a.pos } := by
  rw [classifiedState, sliceReadAt_eq, h]
  rfl

section

variable {s : State} {a : H264Point} {p : SpsFields} {H : Reader HeaderSource} (hk : s.fdCfg.kind = .h264)
  (h : H264Reaches s a) (hnal : a.nal s) (h7 : nalType s a.pos = 7) (hread : spsReadAt s a.pos = (p, H))
include hk h hnal h7 hread

/-- An SPS that runs past the packet ends the scan with no frame (45_frame_detector.md R202). -/
theorem sps_beyond (hl : H.src.left = true) :
    s.parsed.result = noResult ∧ s.parsed.flags.gotAud = a.flags.gotAud ∧ s.parsed.scanner.toNat = a.next s := by
  rw [parsed_at_spsBeyond hk h hnal h7 (by rw [hread, hl])]
  exact ⟨rfl, rfl, ofNat_scanner_toNat (point_next_lt s a)⟩

/-- The fields of an SPS stand at the packet's end if it runs past the packet or no later SPS is met. -/
theorem sps_fields_recorded
    (hlast : H.src.left = true ∨
      ∀ b, H264Reaches s b → H.src.pos ≤ b.pos → b.nal s → nalType s b.pos ≠ 7) :
    s.parsed.flags.frameMbsOnly = p.frameMbsOnly ∧ s.parsed.flags.sepColourPlane = p.sepColourPlane ∧
      s.parsed.log2mfn = p.log2mfn := by
  cases hl : H.src.left with
  | true =>
    rw [parsed_at_spsBeyond hk h hnal h7 (by rw [hread, hl]), spsPoint, hread]
    exact ⟨rfl, rfl, rfl⟩
  | false =>
    rw [hl] at hlast
    exact parsed_sameSps hk 188 (.spsInside h hnal h7 hread hl) (Nat.le_add_right _ _) (hlast.resolve_left Bool.false_ne_true)

end

end Sys2Proof.Machine

namespace Sys2Proof.Proofs

open Sys2Proof.Machine Sys2Proof.Claims

/-- Settles O51: at the packet's end the scan has found nothing and holds what the point holds; with no header read that point is
plain. -/
theorem h264PassesOver : Obligations.H264PassesOver := by
  intro s t hready hacc hk ht
  obtain rfl := eq_processed hready hacc ht
  simp only [State.processed_fdResult, State.processed_fdScanner, State.processed_fdH264, State.processed_fdLog2mfn]
  refine ⟨fun hno => ?_, fun a h hpos => ?_⟩
  · obtain ⟨a, h, hpos, hplain⟩ := reaches_packetEnd (notRead_of_no_firstRead hno)
    rw [parsed_at_end hk h (by omega)]
    refine ⟨rfl, ?_, hplain.flags, hplain.log2mfn, ?_⟩
    · exact hplain.gotAud.trans (by rw [hpos, audBefore_max])
    · exact (ofNat_scanner_toNat (H264Reaches_scanner_lt h)).trans (by rw [hplain.scanner, hpos, scannerIn_end])
  · rw [parsed_at_end hk h hpos]
    exact ⟨rfl, rfl, rfl, ofNat_scanner_toNat (H264Reaches_scanner_lt h)⟩

/-- Settles O52: a slice reached is classified from its header bits, and a header that was written is read back from them. -/
theorem h264SliceClassified : Obligations.H264SliceClassified := by
  intro s t hready hacc hk ht
  obtain rfl := eq_processed hready hacc ht
  simp only [State.processed_fdResult, State.processed_fdScanner, State.processed_fdH264, State.processed_fdLog2mfn]
  refine ⟨fun a h hnal hc sliceType fieldPic bottom hslice => ?_, fun pos x hfirst htype haud hsps hx hbits => ?_,
    fun flags log2mfn x l => sliceOf_of_beginsWith⟩
  · rw [parsed_at_slice hk h hnal hc]
    exact ⟨classified_of_sliceOf hslice, rfl, rfl, ofNat_scanner_toNat (point_next_lt s a)⟩
  · obtain ⟨a, h, rfl, hplain, hnal⟩ := reaches_firstRead hfirst
    have hslice : sliceOf a.flags a.log2mfn (headerBits s a.pos) = (x.sliceType, x.fieldPic, x.bottomField) := by
      rw [hplain.flags, hplain.log2mfn]
      exact sliceOf_of_beginsWith (flags := s.fdH264) hx hbits
    rw [parsed_at_slice hk h hnal (hplain.classifies_iff.mpr ⟨htype, haud, hsps⟩), classified_of_sliceOf hslice]
    have hpos := hnal.1
    have hmod : x.sliceType % 5 < 5 := Nat.mod_lt _ (by omega)
    refine ⟨rfl, by simp, ?_, rfl, rfl, ?_, ?_, hplain.log2mfn, ?_⟩
    · exact Nat.mod_eq_of_lt (by omega)
    · exact Nat.mod_eq_of_lt (by omega)
    · rw [classifiedState, hplain.flags]
    · exact (ofNat_scanner_toNat (point_next_lt s a)).trans hplain.next

/-- Settles O54: the SPS's fields are the flags of the point after it, which stand unless a later SPS is met. -/
theorem h264SpsRecorded : Obligations.H264SpsRecorded := by
  intro s t p H hready hacc hk ht
  obtain rfl := eq_processed hready hacc ht
  simp only [State.processed_fdResult, State.processed_fdScanner, State.processed_fdH264, State.processed_fdLog2mfn]
  refine ⟨fun a h hnal h7 hread => ?_, fun pos hfirst h7 hread => ?_⟩
  · obtain ⟨hlo, hhi⟩ := spsReadAt_standsFrom s hnal.1
    rw [hread] at hlo hhi
    exact ⟨parsed_gotSps hk h hnal h7, hlo, hhi, sps_fields_recorded hk h hnal h7 hread, sps_beyond hk h hnal h7 hread⟩
  · obtain ⟨a, h, rfl, hplain, hnal⟩ := reaches_firstRead hfirst
    refine ⟨parsed_gotSps hk h hnal h7, fun hl => ?_⟩
    obtain ⟨hmbs, hsep, hmfn⟩ := sps_fields_recorded hk h hnal h7 hread (.inl hl)
    obtain ⟨hresult, haud, hscanner⟩ := sps_beyond hk h hnal h7 hread hl
    exact ⟨hmbs, hsep, haud ▸ hplain.gotAud, hmfn, hresult, hscanner.trans hplain.next⟩

end Sys2Proof.Proofs
end
